-- ==== Sys2Proof/Word.lean ====
section
/-! DEFINITION. The word types of the Command Packet Framer (CPF): 32-bit words, 16-bit halves, bytes, and the
byte strings of 4, 8 and 16 bytes that the codec, the payload and the frame use (00_scope.md R5, R8). -/

namespace Sys2Proof

/-- A 32-bit word, "atomic transport unit" (00_scope.md R5, R11). -/
abbrev Word := BitVec 32

/-- A 16-bit half: the prefix, the suffix and the checksum field (00_scope.md R6, 30_encoding.md R91). -/
abbrev Half := BitVec 16

/-- One byte of a frame (20_memory.md R61). -/
abbrev Byte := BitVec 8

/-- The bytes of one encoded word, most significant first (40_word_codec.md R110). -/
abbrev Bytes4 := Vector Byte 4

/-- The bytes of one serialized payload (41_payload.md R121). -/
abbrev Bytes8 := Vector Byte 8

/-- The bytes of one frame; index k is wire offset k (20_memory.md R61). -/
abbrev Bytes16 := Vector Byte 16

end Sys2Proof
end

