-- ==== Sys2Proof/Config.lean ====
section
/-! DEFINITION. The four configuration constants of an instance (00_scope.md R6, 10_state.md R39, R40), their
defaults, and the one uninterpreted constant that stands for a checksum function other than the default. -/

namespace Sys2Proof

/-- Which function the instance was built with as `CHECKSUM_FN` (00_scope.md R6). `crc16` is the default of
43_checksum.md R191; `other n` is any other function, the n-th of `Config.otherChecksum`.
DESIGN CHOICE, safe: log entry 3. -/
inductive ChecksumFn where
  | crc16
  | other (n : Nat)
deriving DecidableEq, Repr

/-- The configuration constants of one instance (10_state.md R39). -/
structure Config where
  /-- `PREFIX_VALUE`, matched against header[31:16]. -/
  prefixValue : Half
  /-- `SUFFIX_VALUE`, matched against footer[31:16]. -/
  suffixValue : Half
  /-- `CMD_ID[s]`, s = 0..22: the header[11:4] pattern of selector s. -/
  cmdId : Vector (BitVec 8) 23
  /-- `CHECKSUM_FN`. -/
  checksumFn : ChecksumFn
deriving DecidableEq, Repr

/-- The checksum functions other than the default, on (header, high, low, footer with its checksum field cleared).
No body: what holds of the model holds whatever these functions are (00_scope.md R6: the model takes
`CHECKSUM_FN` as an argument; log entry 3). -/
opaque Config.otherChecksum : Nat → Word → Word → Word → Word → Half

/-- The defaults of 00_scope.md R6: prefix 0xA55A, suffix 0x5AA5, the identity `CMD_ID`, and the CRC of R191. -/
def Config.defaults : Config where
  prefixValue := 0xA55A#16
  suffixValue := 0x5AA5#16
  cmdId := #v[0x00#8, 0x01#8, 0x02#8, 0x03#8, 0x04#8, 0x05#8, 0x06#8, 0x07#8, 0x08#8, 0x09#8, 0x0A#8, 0x0B#8,
    0x0C#8, 0x0D#8, 0x0E#8, 0x0F#8, 0x10#8, 0x11#8, 0x12#8, 0x13#8, 0x14#8, 0x15#8, 0x16#8]
  checksumFn := .crc16

end Sys2Proof
end

