-- ==== Sys2Proof/Syntax.lean ====
section
/-! DEFINITION. The instruction syntax: one constructor per row of spec/opcode_table.json (30_encoding.md R81 and
42_command_type.md R150). A request is a control word `CTRL` plus operand ports; the constructors hold the fields of
`CTRL` that the operation reads, and no others (30_encoding.md R83: an unread field is ignored). -/

namespace Sys2Proof

/-- The operations of the CPF. Three groups: the 30 request operations (table format `ctrl`), the illegal requests
(three rows of the table), and the 23 header commands (table format `header_cmd`: a command type with its set/get bit
and channel, the intent that BUILD turns into a header word; log entry 7). -/
inductive Instr where
  /-- IDLE: no operation (44_packet.md R224). -/
  | idle
  /-- WENC: word encode (40_word_codec.md R113). -/
  | wenc
  /-- WDEC: word decode (40_word_codec.md R114). -/
  | wdec
  /-- PEMPTY: payload from nothing (41_payload.md R123). -/
  | pempty
  /-- PBOOL: payload from a boolean, `CTRL.BARG` (41_payload.md R124). -/
  | pbool (barg : Bool)
  /-- PI32: payload from a signed 32-bit value (41_payload.md R125). -/
  | pi32
  /-- PU64: payload from an unsigned 64-bit value (41_payload.md R126). -/
  | pu64
  /-- PPAIR: payload from an explicit (high, low) pair (41_payload.md R127). -/
  | ppair
  /-- PHIGH: `high()` view (41_payload.md R128). -/
  | phigh
  /-- PLOW: `low()` view (41_payload.md R129). -/
  | plow
  /-- PASU64: `as_uint64()` view (41_payload.md R130). -/
  | pasu64
  /-- PASU32: `as_uint32()` view (41_payload.md R131). -/
  | pasu32
  /-- PASI32: `as_int32()` view (41_payload.md R132). -/
  | pasi32
  /-- PASBOOL: `as_bool()` view (41_payload.md R133). -/
  | pasbool
  /-- PSER: payload serialize (41_payload.md R134). -/
  | pser
  /-- PDES: payload deserialize (41_payload.md R135). -/
  | pdes
  /-- CMDENC: command type to pattern, of `CTRL.CMD_SEL` (42_command_type.md R178). -/
  | cmdenc (sel : BitVec 5)
  /-- CMDDEC: header pattern to command type (42_command_type.md R179). -/
  | cmddec
  /-- CKSUM: checksum generator (43_checksum.md R196). -/
  | cksum
  /-- BUILD: packet from intent: `CTRL.CHAN`, `CTRL.IS_SET`, `CTRL.CMD_SEL` (44_packet.md R217). -/
  | build (chan : BitVec 2) (isSet : Bool) (sel : BitVec 5)
  /-- PARSE: packet from raw words (44_packet.md R218). -/
  | parse
  /-- FSER: frame serialize (44_packet.md R219). -/
  | fser
  /-- FDES: frame deserialize and parse (44_packet.md R220). -/
  | fdes
  /-- FAIL: synthetic failed packet (44_packet.md R221). -/
  | fail
  /-- EXTRACT: extract the payload of `PKT` (44_packet.md R222). -/
  | extract
  /-- PKTRD: read the whole packet (44_packet.md R223). -/
  | pktrd
  /-- VXSW: software version field (45_field_extract.md R251). -/
  | vxsw
  /-- VXREC: recovery-mode flag (45_field_extract.md R252). -/
  | vxrec
  /-- VXFPGA: FPGA type field (45_field_extract.md R253). -/
  | vxfpga
  /-- VXHW: hardware version field (45_field_extract.md R254). -/
  | vxhw
  /-- Illegal request, `CTRL.OP` = 0x1E, every other bit any value (60_exceptions.md R275). -/
  | reserved1E
  /-- Illegal request, `CTRL.OP` = 0x1F, every other bit any value (60_exceptions.md R275). -/
  | reserved1F
  /-- Illegal request: a nonzero reserved bit in `RSV1` = CTRL[31:17] or `RSV0` = CTRL[7:5], with an `OP` that would
  otherwise name an operation (30_encoding.md R82, 60_exceptions.md R275). -/
  | reservedBitsSet (rsv1 : BitVec 15) (rsv0 : BitVec 3) (op : BitVec 5)
  /-- InitDevice: the header command of selector 0 (42_command_type.md R155). -/
  | initDevice (isSet : Bool) (chan : BitVec 2)
  /-- CaptureEnable: the header command of selector 1 (42_command_type.md R156). -/
  | captureEnable (isSet : Bool) (chan : BitVec 2)
  /-- LOFrequency: the header command of selector 2 (42_command_type.md R157). -/
  | loFrequency (isSet : Bool) (chan : BitVec 2)
  /-- Gain: the header command of selector 3 (42_command_type.md R158). -/
  | gain (isSet : Bool) (chan : BitVec 2)
  /-- GainMode: the header command of selector 4 (42_command_type.md R159). -/
  | gainMode (isSet : Bool) (chan : BitVec 2)
  /-- Bandwidth: the header command of selector 5 (42_command_type.md R160). -/
  | bandwidth (isSet : Bool) (chan : BitVec 2)
  /-- SampleRate: the header command of selector 6 (42_command_type.md R161). -/
  | sampleRate (isSet : Bool) (chan : BitVec 2)
  /-- IRFilterCfg: the header command of selector 7 (42_command_type.md R162). -/
  | irFilterCfg (isSet : Bool) (chan : BitVec 2)
  /-- TransmitEnable: the header command of selector 8 (42_command_type.md R163). -/
  | transmitEnable (isSet : Bool) (chan : BitVec 2)
  /-- DeviceStatus: the header command of selector 9 (42_command_type.md R164). -/
  | deviceStatus (isSet : Bool) (chan : BitVec 2)
  /-- MultiplexMode: the header command of selector 10 (42_command_type.md R165). -/
  | multiplexMode (isSet : Bool) (chan : BitVec 2)
  /-- Reset: the header command of selector 11 (42_command_type.md R166). -/
  | reset (isSet : Bool) (chan : BitVec 2)
  /-- ReferenceSource: the header command of selector 12 (42_command_type.md R167). -/
  | referenceSource (isSet : Bool) (chan : BitVec 2)
  /-- IRFilterUse: the header command of selector 13 (42_command_type.md R168). -/
  | irFilterUse (isSet : Bool) (chan : BitVec 2)
  /-- AGCParams: the header command of selector 14 (42_command_type.md R169). -/
  | agcParams (isSet : Bool) (chan : BitVec 2)
  /-- CmdCounter: the header command of selector 15 (42_command_type.md R170). -/
  | cmdCounter (isSet : Bool) (chan : BitVec 2)
  /-- ChipsetID: the header command of selector 16 (42_command_type.md R171). -/
  | chipsetId (isSet : Bool) (chan : BitVec 2)
  /-- FirmwareUpdate: the header command of selector 17 (42_command_type.md R172). -/
  | firmwareUpdate (isSet : Bool) (chan : BitVec 2)
  /-- Temperature: the header command of selector 18 (42_command_type.md R173). -/
  | temperature (isSet : Bool) (chan : BitVec 2)
  /-- ERMVersion: the header command of selector 19 (42_command_type.md R174). -/
  | ermVersion (isSet : Bool) (chan : BitVec 2)
  /-- DebugB: the header command of selector 20 (42_command_type.md R175). -/
  | debugB (isSet : Bool) (chan : BitVec 2)
  /-- DebugA: the header command of selector 21 (42_command_type.md R176). -/
  | debugA (isSet : Bool) (chan : BitVec 2)
  /-- Nop: the header command of selector 22 (42_command_type.md R177). -/
  | nop (isSet : Bool) (chan : BitVec 2)
deriving DecidableEq, Repr

/-- The two word formats of the opcode table: the request control word (30_encoding.md R80) and the header word of a
frame (30_encoding.md R90). -/
inductive Format where
  | ctrl
  | headerCmd
deriving DecidableEq, Repr

end Sys2Proof
end

