-- ==== Sys2Proof/WellFormed.lean ====
section
/-! DEFINITION. The checks on an instruction (only the reserved-bits row has any: every other constructor's fields are
exactly the bits the encoding admits) and on the configuration constants (10_state.md R39). -/

namespace Sys2Proof

/-- An illegal request by its reserved bits has a reserved bit set (30_encoding.md R82) and an `OP` of at most 0x1D
(0x1E and 0x1F are rows of their own: log entry 8). Every other instruction is well-formed. -/
def Instr.wellFormed : Instr → Bool
  | .reservedBitsSet rsv1 rsv0 op => (rsv1 != 0 || rsv0 != 0) && decide (op.toNat ≤ 0x1D)
  | _ => true

/-- "`CMD_ID` must be injective on selectors 0 to 22" (42_command_type.md R152). -/
def Config.cmdIdsDistinct (cfg : Config) : Bool :=
  decide cfg.cmdId.toList.Nodup

end Sys2Proof
end

