-- ==== Sys2Proof/Decode.lean ====
section
/-! DEFINITION. The decoders and encoders of the two word formats: the request control word `CTRL` (30_encoding.md R80
to R87) and the header word of a frame (30_encoding.md R90), with the command-type table both directions
(42_command_type.md R153, R154). Every 32-bit `CTRL` decodes; a header word whose pattern is in no table entry is
rejected by name. -/

namespace Sys2Proof

/-! ## The control word -/

/-- `CTRL.OP` = CTRL[4:0] (30_encoding.md R80). -/
def opOf (w : Word) : BitVec 5 := w.extractLsb' 0 5

/-- `CTRL.RSV0` = CTRL[7:5], reserved. -/
def rsv0Of (w : Word) : BitVec 3 := w.extractLsb' 5 3

/-- `CTRL.CMD_SEL` = CTRL[12:8] (30_encoding.md R85). -/
def selOf (w : Word) : BitVec 5 := w.extractLsb' 8 5

/-- `CTRL.IS_SET` = CTRL[13], 1 = true (30_encoding.md R85). -/
def isSetOf (w : Word) : Bool := w.getLsbD 13

/-- `CTRL.CHAN` = CTRL[15:14] (30_encoding.md R85). -/
def chanOf (w : Word) : BitVec 2 := w.extractLsb' 14 2

/-- `CTRL.BARG` = CTRL[16], 1 = true (30_encoding.md R85). -/
def bargOf (w : Word) : Bool := w.getLsbD 16

/-- `CTRL.RSV1` = CTRL[31:17], reserved. -/
def rsv1Of (w : Word) : BitVec 15 := w.extractLsb' 17 15

/-- A reserved bit of `CTRL` is set (30_encoding.md R82). -/
def reservedBitSet (w : Word) : Bool := rsv1Of w != 0 || rsv0Of w != 0

/-- The operation of a control word by `CTRL.OP` alone (30_encoding.md R81, R86). Only the fields that the operation
reads are kept (R83). -/
def decodeOp (w : Word) : Instr :=
  match (opOf w).toNat with
  | 0x00 => .idle
  | 0x01 => .wenc
  | 0x02 => .wdec
  | 0x03 => .pempty
  | 0x04 => .pbool (bargOf w)
  | 0x05 => .pi32
  | 0x06 => .pu64
  | 0x07 => .ppair
  | 0x08 => .phigh
  | 0x09 => .plow
  | 0x0A => .pasu64
  | 0x0B => .pasu32
  | 0x0C => .pasi32
  | 0x0D => .pasbool
  | 0x0E => .pser
  | 0x0F => .pdes
  | 0x10 => .cmdenc (selOf w)
  | 0x11 => .cmddec
  | 0x12 => .cksum
  | 0x13 => .build (chanOf w) (isSetOf w) (selOf w)
  | 0x14 => .parse
  | 0x15 => .fser
  | 0x16 => .fdes
  | 0x17 => .fail
  | 0x18 => .extract
  | 0x19 => .pktrd
  | 0x1A => .vxsw
  | 0x1B => .vxrec
  | 0x1C => .vxfpga
  | 0x1D => .vxhw
  | 0x1E => .reserved1E
  | _ => .reserved1F

/-- The instruction that a control word selects: the legality check of 30_encoding.md R82, then `CTRL.OP` (R86). An
illegal word decodes to the illegal request of its table row; a reserved `OP` is looked at before the reserved bits,
since those two rows leave every other bit free (log entry 8). -/
def decodeCtrl (w : Word) : Instr :=
  if (opOf w).toNat ≤ 0x1D ∧ reservedBitSet w = true then
    .reservedBitsSet (rsv1Of w) (rsv0Of w) (opOf w)
  else
    decodeOp w

/-- A legal control word from its fields: "(BARG << 16) | (CHAN << 14) | (IS_SET << 13) | (CMD_SEL << 8) | OP"
(30_encoding.md R88). -/
def ctrlWord (barg : Bool) (chan : BitVec 2) (isSet : Bool) (sel : BitVec 5) (op : BitVec 5) : Word :=
  ((BitVec.ofBool barg).setWidth 32 <<< 16) ||| (chan.setWidth 32 <<< 14) |||
    ((BitVec.ofBool isSet).setWidth 32 <<< 13) ||| (sel.setWidth 32 <<< 8) ||| op.setWidth 32

/-! ## The command-type table -/

/-- `CmdPattern(s)`: the pattern of a recognized selector, and that of Nop for 23 to 31 (42_command_type.md R153). -/
def cmdPattern (cfg : Config) (sel : BitVec 5) : BitVec 8 :=
  if h : sel.toNat ≤ 22 then cfg.cmdId[sel.toNat] else cfg.cmdId[22]

/-- `CmdSelector(p)`: the selector whose entry is `p` (42_command_type.md R154). R152 makes it unique; of a table that
breaks R152 the lowest selector is taken (DESIGN CHOICE, unsafe: log entry 10). -/
def cmdSelector (cfg : Config) (p : BitVec 8) : Option (BitVec 5) :=
  (cfg.cmdId.toList.findIdx? (· == p)).map (BitVec.ofNat 5)

/-- The header command of a recognized selector (42_command_type.md R150). -/
def headerCommand? (sel : BitVec 5) (isSet : Bool) (chan : BitVec 2) : Option Instr :=
  match sel.toNat with
  | 0 => some (.initDevice isSet chan)
  | 1 => some (.captureEnable isSet chan)
  | 2 => some (.loFrequency isSet chan)
  | 3 => some (.gain isSet chan)
  | 4 => some (.gainMode isSet chan)
  | 5 => some (.bandwidth isSet chan)
  | 6 => some (.sampleRate isSet chan)
  | 7 => some (.irFilterCfg isSet chan)
  | 8 => some (.transmitEnable isSet chan)
  | 9 => some (.deviceStatus isSet chan)
  | 10 => some (.multiplexMode isSet chan)
  | 11 => some (.reset isSet chan)
  | 12 => some (.referenceSource isSet chan)
  | 13 => some (.irFilterUse isSet chan)
  | 14 => some (.agcParams isSet chan)
  | 15 => some (.cmdCounter isSet chan)
  | 16 => some (.chipsetId isSet chan)
  | 17 => some (.firmwareUpdate isSet chan)
  | 18 => some (.temperature isSet chan)
  | 19 => some (.ermVersion isSet chan)
  | 20 => some (.debugB isSet chan)
  | 21 => some (.debugA isSet chan)
  | 22 => some (.nop isSet chan)
  | _ => none

/-- The catalog selector, the set/get bit and the channel of a header command (42_command_type.md R150, 30_encoding.md
R90), and `none` for every request row. -/
def Instr.headerFields? : Instr → Option (BitVec 5 × Bool × BitVec 2)
  | .initDevice isSet chan => some (0#5, isSet, chan)
  | .captureEnable isSet chan => some (1#5, isSet, chan)
  | .loFrequency isSet chan => some (2#5, isSet, chan)
  | .gain isSet chan => some (3#5, isSet, chan)
  | .gainMode isSet chan => some (4#5, isSet, chan)
  | .bandwidth isSet chan => some (5#5, isSet, chan)
  | .sampleRate isSet chan => some (6#5, isSet, chan)
  | .irFilterCfg isSet chan => some (7#5, isSet, chan)
  | .transmitEnable isSet chan => some (8#5, isSet, chan)
  | .deviceStatus isSet chan => some (9#5, isSet, chan)
  | .multiplexMode isSet chan => some (10#5, isSet, chan)
  | .reset isSet chan => some (11#5, isSet, chan)
  | .referenceSource isSet chan => some (12#5, isSet, chan)
  | .irFilterUse isSet chan => some (13#5, isSet, chan)
  | .agcParams isSet chan => some (14#5, isSet, chan)
  | .cmdCounter isSet chan => some (15#5, isSet, chan)
  | .chipsetId isSet chan => some (16#5, isSet, chan)
  | .firmwareUpdate isSet chan => some (17#5, isSet, chan)
  | .temperature isSet chan => some (18#5, isSet, chan)
  | .ermVersion isSet chan => some (19#5, isSet, chan)
  | .debugB isSet chan => some (20#5, isSet, chan)
  | .debugA isSet chan => some (21#5, isSet, chan)
  | .nop isSet chan => some (22#5, isSet, chan)
  | .idle | .wenc | .wdec | .pempty | .pbool _ | .pi32 | .pu64 | .ppair | .phigh
  | .plow | .pasu64 | .pasu32 | .pasi32 | .pasbool | .pser | .pdes | .cmdenc _ | .cmddec
  | .cksum | .build _ _ _ | .parse | .fser | .fdes | .fail | .extract | .pktrd | .vxsw
  | .vxrec | .vxfpga | .vxhw | .reserved1E | .reserved1F | .reservedBitsSet _ _ _ => none

/-- The format of the table row that an instruction's constructor stands for. -/
def Instr.format (i : Instr) : Format :=
  if i.headerFields?.isSome then .headerCmd else .ctrl

/-! ## The header word -/

/-- Header `ACK` = header[15] (30_encoding.md R90). -/
def headerAck (h : Word) : Bool := h.getLsbD 15

/-- Header `SG` = header[14], 1 = set (30_encoding.md R90). -/
def headerSg (h : Word) : Bool := h.getLsbD 14

/-- Header `CMD` = header[11:4] (30_encoding.md R90). -/
def headerCmd (h : Word) : BitVec 8 := h.extractLsb' 4 8

/-- Header `CHAN` = header[1:0] (30_encoding.md R90). -/
def headerChan (h : Word) : BitVec 2 := h.extractLsb' 0 2

/-- The header word that BUILD writes: prefix, ack 0, set/get bit, command pattern (Nop's for an unrecognized selector),
channel, reserved bits 0 (30_encoding.md R90, 44_packet.md R211). -/
def headerWord (cfg : Config) (sel : BitVec 5) (chan : BitVec 2) (isSet : Bool) : Word :=
  (cfg.prefixValue.setWidth 32 <<< 16) ||| ((BitVec.ofBool isSet).setWidth 32 <<< 14) |||
    ((cmdPattern cfg sel).setWidth 32 <<< 4) ||| chan.setWidth 32

/-- Why a word is no instruction of its format. -/
inductive DecodeError where
  /-- The header's `CMD` field is in no entry of `CMD_ID` (42_command_type.md R154). Raised by `decodeHeader`; safe. -/
  | unknownCommandPattern (p : BitVec 8)
deriving DecidableEq, Repr

/-- The header command that a header word names: its `CMD` field looked up in the table; the prefix, ack and reserved
bits are not read (30_encoding.md R94, the masks of the table's `header_cmd` rows). -/
def decodeHeader (cfg : Config) (h : Word) : Except DecodeError Instr :=
  match (cmdSelector cfg (headerCmd h)).bind fun sel => headerCommand? sel (headerSg h) (headerChan h) with
  | some i => .ok i
  | none => .error (.unknownCommandPattern (headerCmd h))

/-! ## Both formats -/

/-- The decoder of each format. -/
def decode (cfg : Config) : Format → Word → Except DecodeError Instr
  | .ctrl, w => .ok (decodeCtrl w)
  | .headerCmd, h => decodeHeader cfg h

/-- The control word of the request that performs an instruction (30_encoding.md R81, R88). Ignored bits are 0. A header
command is performed by the request `BUILD cmd=<its name>`. -/
def encodeCtrl : Instr → Word
  | .idle => ctrlWord false 0 false 0 0x00#5
  | .wenc => ctrlWord false 0 false 0 0x01#5
  | .wdec => ctrlWord false 0 false 0 0x02#5
  | .pempty => ctrlWord false 0 false 0 0x03#5
  | .pbool barg => ctrlWord barg 0 false 0 0x04#5
  | .pi32 => ctrlWord false 0 false 0 0x05#5
  | .pu64 => ctrlWord false 0 false 0 0x06#5
  | .ppair => ctrlWord false 0 false 0 0x07#5
  | .phigh => ctrlWord false 0 false 0 0x08#5
  | .plow => ctrlWord false 0 false 0 0x09#5
  | .pasu64 => ctrlWord false 0 false 0 0x0A#5
  | .pasu32 => ctrlWord false 0 false 0 0x0B#5
  | .pasi32 => ctrlWord false 0 false 0 0x0C#5
  | .pasbool => ctrlWord false 0 false 0 0x0D#5
  | .pser => ctrlWord false 0 false 0 0x0E#5
  | .pdes => ctrlWord false 0 false 0 0x0F#5
  | .cmdenc sel => ctrlWord false 0 false sel 0x10#5
  | .cmddec => ctrlWord false 0 false 0 0x11#5
  | .cksum => ctrlWord false 0 false 0 0x12#5
  | .build chan isSet sel => ctrlWord false chan isSet sel 0x13#5
  | .parse => ctrlWord false 0 false 0 0x14#5
  | .fser => ctrlWord false 0 false 0 0x15#5
  | .fdes => ctrlWord false 0 false 0 0x16#5
  | .fail => ctrlWord false 0 false 0 0x17#5
  | .extract => ctrlWord false 0 false 0 0x18#5
  | .pktrd => ctrlWord false 0 false 0 0x19#5
  | .vxsw => ctrlWord false 0 false 0 0x1A#5
  | .vxrec => ctrlWord false 0 false 0 0x1B#5
  | .vxfpga => ctrlWord false 0 false 0 0x1C#5
  | .vxhw => ctrlWord false 0 false 0 0x1D#5
  | .reserved1E => 0x1E#32
  | .reserved1F => 0x1F#32
  | .reservedBitsSet rsv1 rsv0 op => (rsv1.setWidth 32 <<< 17) ||| (rsv0.setWidth 32 <<< 5) ||| op.setWidth 32
  | .initDevice isSet chan => ctrlWord false chan isSet 0#5 0x13#5
  | .captureEnable isSet chan => ctrlWord false chan isSet 1#5 0x13#5
  | .loFrequency isSet chan => ctrlWord false chan isSet 2#5 0x13#5
  | .gain isSet chan => ctrlWord false chan isSet 3#5 0x13#5
  | .gainMode isSet chan => ctrlWord false chan isSet 4#5 0x13#5
  | .bandwidth isSet chan => ctrlWord false chan isSet 5#5 0x13#5
  | .sampleRate isSet chan => ctrlWord false chan isSet 6#5 0x13#5
  | .irFilterCfg isSet chan => ctrlWord false chan isSet 7#5 0x13#5
  | .transmitEnable isSet chan => ctrlWord false chan isSet 8#5 0x13#5
  | .deviceStatus isSet chan => ctrlWord false chan isSet 9#5 0x13#5
  | .multiplexMode isSet chan => ctrlWord false chan isSet 10#5 0x13#5
  | .reset isSet chan => ctrlWord false chan isSet 11#5 0x13#5
  | .referenceSource isSet chan => ctrlWord false chan isSet 12#5 0x13#5
  | .irFilterUse isSet chan => ctrlWord false chan isSet 13#5 0x13#5
  | .agcParams isSet chan => ctrlWord false chan isSet 14#5 0x13#5
  | .cmdCounter isSet chan => ctrlWord false chan isSet 15#5 0x13#5
  | .chipsetId isSet chan => ctrlWord false chan isSet 16#5 0x13#5
  | .firmwareUpdate isSet chan => ctrlWord false chan isSet 17#5 0x13#5
  | .temperature isSet chan => ctrlWord false chan isSet 18#5 0x13#5
  | .ermVersion isSet chan => ctrlWord false chan isSet 19#5 0x13#5
  | .debugB isSet chan => ctrlWord false chan isSet 20#5 0x13#5
  | .debugA isSet chan => ctrlWord false chan isSet 21#5 0x13#5
  | .nop isSet chan => ctrlWord false chan isSet 22#5 0x13#5

/-- The encoder: a request's control word, or the header word that a header command stands for. -/
def encode (cfg : Config) (i : Instr) : Word :=
  match i.headerFields? with
  | some (sel, isSet, chan) => headerWord cfg sel chan isSet
  | none => encodeCtrl i

/-- The instruction that the decoder of the request port reads from a control word of `nbits` bits; the bits above
`nbits` are 0, and `CTRL` is one 32-bit port, so it has no byte order (10_state.md R31; log entry 13). -/
def decodeTableWord (nbits w : Nat) : Option Instr :=
  if nbits ≤ 32 then some (decodeCtrl (BitVec.ofNat 32 (w % 2 ^ nbits))) else none

end Sys2Proof
end

