-- ==== Sys2Proof/Machine/State.lean ====
section
/-! DEFINITION. The state of one CPF instance, the reasons a step can stop, and the state after reset (10_state.md). -/

namespace Sys2Proof.Machine

/-- The value of the packet register `PKT` (10_state.md R33, 44_packet.md R210). -/
structure Packet where
  /-- `PKT.HDR`, the header word. -/
  hdr : Word
  /-- `PKT.PLH`, the payload high word. -/
  plh : Word
  /-- `PKT.PLL`, the payload low word. -/
  pll : Word
  /-- `PKT.FTR`, the footer word. -/
  ftr : Word
  /-- `PKT.PV`, 1 = valid. -/
  pv : Bool
  /-- `PKT.PE`, the protocol error code of R34. -/
  pe : BitVec 3
deriving DecidableEq, Repr

/-- The values on the request ports (10_state.md R31). -/
structure Request where
  ctrl : Word
  a : Word
  b : Word
  c : Word
  d : Word
  /-- `BIN[0..15]`; index k is wire offset k. -/
  bin : Bytes16
deriving DecidableEq, Repr

/-- The values on the response ports (10_state.md R32). -/
structure Response where
  r0 : Word
  r1 : Word
  r2 : Word
  r3 : Word
  /-- `BOUT[0..15]`; index k is wire offset k. -/
  bout : Bytes16
  valid : Bool
  err : BitVec 3
  ill : Bool
deriving DecidableEq, Repr

/-- What the host does to the instance: it presents one request for a step, or it applies the reset input, with or
without a request presented in the same step (10_state.md R30, 70_reset_and_hazards.md R300). -/
inductive HostEvent where
  | request (r : Request)
  | reset (presented : Option Request)
deriving DecidableEq, Repr

/-- One CPF instance (10_state.md R41: "The only state is `PKT`"), with its configuration constants, its ports and the
host's events to come. -/
structure State where
  /-- The configuration constants, fixed when the instance is built (R39, R40); no step changes them (log entry 1). -/
  cfg : Config
  /-- The packet register (R33). -/
  pkt : Packet
  /-- The response ports: the last response, until the next one replaces it (R32). -/
  resp : Response
  /-- The request ports as sampled by the step (R31; log entry 6). -/
  req : Request
  /-- MODEL's own field: what the host does next, in issue order (R30, R69; log entry 4). -/
  host : List HostEvent
deriving DecidableEq, Repr

/-- Why the machine stops with a fault. -/
inductive Fault where
  /-- `PKT.PE` holds code 6 or 7, so the machine "has left the state space, and no further step is defined"
  (93_implementation_defined.md I10). Raised by `step` when a request is presented in such a state; safe. -/
  | errorCodeOutsideStateSpace
deriving DecidableEq, Repr

/-- Why the model refuses. -/
inductive Refusal where
  /-- The instruction has no meaning yet. Raised by `exec` only; safe. No arm of this model uses it. -/
  | notModelled (mnemonic : String)
deriving DecidableEq, Repr

/-- The state right after reset (10_state.md R44): the failed packet, every output 0. The constants are the spec's
defaults (log entry 2), the request ports hold 0 (log entry 6), and no host event is placed (log entry 4). -/
def State.reset : State where
  cfg := Config.defaults
  pkt := { hdr := 0, plh := 0, pll := 0, ftr := 0, pv := false, pe := 4 }
  resp := { r0 := 0, r1 := 0, r2 := 0, r3 := 0, valid := false, err := 0, ill := false,
            bout := #v[0, 0, 0, 0, 0, 0, 0, 0, 0, 0, 0, 0, 0, 0, 0, 0] }
  req := { ctrl := 0, a := 0, b := 0, c := 0, d := 0,
           bin := #v[0, 0, 0, 0, 0, 0, 0, 0, 0, 0, 0, 0, 0, 0, 0, 0] }
  host := []

end Sys2Proof.Machine
end

