-- ==== Sys2Proof/Machine/Flags.lean ====
section
/-! DEFINITION. The classifications and the predicates behind `VALID`, `ERR`, `PKT.PV` and `PKT.PE`: the protocol error
codes (10_state.md R34, 60_exceptions.md R271), recognition of a selector (42_command_type.md R151) and the four
predicates over received words (30_encoding.md R92). -/

namespace Sys2Proof.Machine

/-- The six protocol-level kinds, in the source's order (10_state.md R34). -/
inductive ErrorKind where
  | none
  | checksumFailure
  | framingError
  | notAcknowledged
  | deviceNotResponding
  | commandNotRecognized
deriving DecidableEq, Repr

/-- The 3-bit code of a kind; 6 and 7 are never produced (10_state.md R34). -/
def errorCode : ErrorKind → BitVec 3
  | .none => 0
  | .checksumFailure => 1
  | .framingError => 2
  | .notAcknowledged => 3
  | .deviceNotResponding => 4
  | .commandNotRecognized => 5

/-- "A selector s is recognized if and only if `s <= 22`" (42_command_type.md R151). -/
def recognized (sel : BitVec 5) : Bool := decide (sel.toNat ≤ 22)

/-- The kind that goes with recognition: None, or CommandNotRecognized (42_command_type.md R178, 44_packet.md R211). -/
def recognitionKind (known : Bool) : ErrorKind :=
  if known then .none else .commandNotRecognized

/-- `carriesPrefix(h)` (30_encoding.md R92). -/
def carriesPrefix (cfg : Config) (h : Word) : Bool := h.extractLsb' 16 16 == cfg.prefixValue

/-- `carriesSuffix(f)` (30_encoding.md R92). -/
def carriesSuffix (cfg : Config) (f : Word) : Bool := f.extractLsb' 16 16 == cfg.suffixValue

/-- `acknowledged(h)`: the ack/nack bit is 0 (30_encoding.md R92, 90_conflicts.md C7). -/
def acknowledged (h : Word) : Bool := !headerAck h

/-- `cksField(f)` = f[15:0] (30_encoding.md R92). -/
def cksField (f : Word) : Half := f.extractLsb' 0 16

/-- `PKT.PE` is one of the codes 0 to 5 (10_state.md R35, 93_implementation_defined.md I10). -/
def inStateSpace (p : Packet) : Bool := decide (p.pe.toNat ≤ 5)

end Sys2Proof.Machine
end

