-- ==== Sys2Proof/Machine/Ops.lean ====
section
/-! DEFINITION. The named operations over words, bytes, ports and `PKT` that the meanings share: byte order
(20_memory.md R62, 40_word_codec.md R110, R111), the payload's byte form (41_payload.md R121, R122), driving the outputs
(10_state.md R42), writing `PKT` (10_state.md R33), the illegal-request indication (60_exceptions.md R275, the one
"exception" of the CPF, which takes no traps: R270, R277) and reset (70_reset_and_hazards.md R300). -/

namespace Sys2Proof.Machine

/-! ## Byte order -/

/-- `EncodeWord`: "most-significant byte first" (40_word_codec.md R110). -/
def encodeWord (w : Word) : Bytes4 :=
  #v[w.extractLsb' 24 8, w.extractLsb' 16 8, w.extractLsb' 8 8, w.extractLsb' 0 8]

/-- `DecodeWord`: b[0] ‖ b[1] ‖ b[2] ‖ b[3] (40_word_codec.md R111). -/
def decodeWord (b : Bytes4) : Word := b[0] ++ b[1] ++ b[2] ++ b[3]

/-- `PayloadSerialize`: the high word then the low word, each big-endian (41_payload.md R121). -/
def payloadSerialize (high low : Word) : Bytes8 :=
  let h := encodeWord high
  let l := encodeWord low
  #v[h[0], h[1], h[2], h[3], l[0], l[1], l[2], l[3]]

/-- `PayloadDeserialize` (41_payload.md R122). -/
def payloadDeserialize (b : Bytes8) : Word × Word :=
  (decodeWord #v[b[0], b[1], b[2], b[3]], decodeWord #v[b[4], b[5], b[6], b[7]])

/-! ## Driving the outputs -/

/-- The response with every output 0 (10_state.md R42). -/
def quiet : Response where
  r0 := 0
  r1 := 0
  r2 := 0
  r3 := 0
  bout := #v[0, 0, 0, 0, 0, 0, 0, 0, 0, 0, 0, 0, 0, 0, 0, 0]
  valid := false
  err := 0
  ill := false

/-- The response of this step replaces the one before (10_state.md R32). -/
def respond (r : Response) (s : State) : State := { s with resp := r }

/-- Drive `R0` alone. -/
def driveR0 (x : Word) (s : State) : State := respond { quiet with r0 := x } s

/-- Drive `R0` and `R1`. -/
def driveR0R1 (x y : Word) (s : State) : State := respond { quiet with r0 := x, r1 := y } s

/-- Drive `BOUT[0..3]`. -/
def driveBout4 (b : Bytes4) (s : State) : State :=
  respond { quiet with bout := #v[b[0], b[1], b[2], b[3], 0, 0, 0, 0, 0, 0, 0, 0, 0, 0, 0, 0] } s

/-- Drive `BOUT[0..7]`. -/
def driveBout8 (b : Bytes8) (s : State) : State :=
  respond { quiet with
    bout := #v[b[0], b[1], b[2], b[3], b[4], b[5], b[6], b[7], 0, 0, 0, 0, 0, 0, 0, 0] } s

/-- Drive `R0`, `VALID` and `ERR`, as the table lookups do (42_command_type.md R178, R179). -/
def driveLookup (x : Word) (known : Bool) (s : State) : State :=
  respond { quiet with r0 := x, valid := known, err := errorCode (recognitionKind known) } s

/-- The response that reads a packet out on `R0` to `R3`, `VALID` and `ERR` (44_packet.md R217, R223). -/
def packetResponse (p : Packet) : Response :=
  { quiet with r0 := p.hdr, r1 := p.plh, r2 := p.pll, r3 := p.ftr, valid := p.pv, err := p.pe }

/-! ## The packet register -/

/-- Write `PKT`, all six fields at once, and read the new packet out (10_state.md R33, 44_packet.md R217). -/
def writePacket (p : Packet) (s : State) : State := respond (packetResponse p) { s with pkt := p }

/-- `FailedPacket` (44_packet.md R216). -/
def failedPacket : Packet where
  hdr := 0
  plh := 0
  pll := 0
  ftr := 0
  pv := false
  pe := errorCode .deviceNotResponding

/-! ## Illegal requests and reset -/

/-- `raise IllegalRequest`: `ILL` is 1, every other output is 0, `PKT` is unchanged (60_exceptions.md R275). Nothing is
saved and control goes nowhere (R277), so there is no return from it (R278). -/
def raiseIllegalRequest (s : State) : State := respond { quiet with ill := true } s

/-- The reset event: "every piece of state to its value in 10_state.md rule R44"; the constants are unchanged
(70_reset_and_hazards.md R300, 10_state.md R40). -/
def applyReset (s : State) : State := respond quiet { s with pkt := failedPacket }

end Sys2Proof.Machine
end

