-- ==== Sys2Proof/Machine/Operands.lean ====
section
/-! DEFINITION. The operand forms: the operand words, the 64-bit operand and the words and payload of `BIN`
(30_encoding.md R84, 10_state.md R31). Every operand enters unchanged. -/

namespace Sys2Proof.Machine

/-- Operand word `A`. -/
def operandA (s : State) : Word := s.req.a

/-- Operand word `B`. -/
def operandB (s : State) : Word := s.req.b

/-- Operand word `C`. -/
def operandC (s : State) : Word := s.req.c

/-- Operand word `D`. -/
def operandD (s : State) : Word := s.req.d

/-- The 64-bit operand `A ‖ B`, A in bits [63:32] (30_encoding.md R84). -/
def operand64 (s : State) : BitVec 64 := operandA s ++ operandB s

/-- `BIN[0..3]` (20_memory.md R66). -/
def binBytes4 (s : State) : Bytes4 := #v[s.req.bin[0], s.req.bin[1], s.req.bin[2], s.req.bin[3]]

/-- `BIN[0..7]` (20_memory.md R66). -/
def binBytes8 (s : State) : Bytes8 :=
  #v[s.req.bin[0], s.req.bin[1], s.req.bin[2], s.req.bin[3],
     s.req.bin[4], s.req.bin[5], s.req.bin[6], s.req.bin[7]]

/-- `BIN[0..15]` (20_memory.md R66). -/
def binBytes16 (s : State) : Bytes16 := s.req.bin

end Sys2Proof.Machine
end

