-- ==== Sys2Proof/Machine/Checksum.lean ====
section
/-! DEFINITION. The checksum generator: the default CRC (43_checksum.md R191), the checksum of a frame's words with the
footer's checksum field cleared (R190), and the operation CKSUM (R196). -/

namespace Sys2Proof.Machine

/-- One shift of the CRC register: polynomial 0x1021, most significant bit first (43_checksum.md R191). -/
def crcBit (c : Half) : Half :=
  if c.getLsbD 15 then (c <<< 1) ^^^ 0x1021#16 else c <<< 1

/-- One message byte into the CRC register (43_checksum.md R191). -/
def crcByte (c : Half) (m : Byte) : Half :=
  Nat.repeat crcBit 8 (c ^^^ (m.setWidth 16 <<< 8))

/-- The CRC of a byte string, initial value 0xFFFF, no final XOR (43_checksum.md R191). -/
def crc16 (m : List Byte) : Half := m.foldl crcByte 0xFFFF#16

/-- `EncodeWord(h) ‖ EncodeWord(hi) ‖ EncodeWord(lo) ‖ EncodeWord(f')`, the CRC's message (43_checksum.md R191). -/
def checksumMessage (h hi lo f' : Word) : List Byte :=
  (encodeWord h).toList ++ (encodeWord hi).toList ++ (encodeWord lo).toList ++ (encodeWord f').toList

/-- `CHECKSUM_FN` of the instance (00_scope.md R6). -/
def checksumFn (cfg : Config) (h hi lo f' : Word) : Half :=
  match cfg.checksumFn with
  | .crc16 => crc16 (checksumMessage h hi lo f')
  | .other n => Config.otherChecksum n h hi lo f'

/-- `Checksum(h, hi, lo, f)`: the checksum field of the footer is always cleared first (43_checksum.md R190,
90_conflicts.md C2). -/
def checksum (cfg : Config) (h hi lo f : Word) : Half :=
  checksumFn cfg h hi lo (f &&& 0xFFFF0000#32)

/-- CKSUM: `R0 <- zext_32(Checksum(A, B, C, D))` (43_checksum.md R196). -/
def execCksum (s : State) : Host.Outcome State Fault Refusal :=
  .next (driveR0 ((checksum s.cfg (operandA s) (operandB s) (operandC s) (operandD s)).setWidth 32) s)

end Sys2Proof.Machine
end

