-- ==== Sys2Proof/Machine/CommandType.lean ====
section
/-! DEFINITION. The command-type table operations CMDENC and CMDDEC (42_command_type.md R178, R179). -/

namespace Sys2Proof.Machine

/-- CMDENC: the pattern of the selector, Nop's for an unrecognized one, with `VALID` and `ERR` by recognition
(42_command_type.md R178). -/
def execCmdenc (sel : BitVec 5) (s : State) : Host.Outcome State Fault Refusal :=
  .next (driveLookup ((cmdPattern s.cfg sel).setWidth 32) (recognized sel) s)

/-- CMDDEC: the selector of the pattern in A[11:4], or 0 with `VALID` = 0 (42_command_type.md R179). -/
def execCmddec (s : State) : Host.Outcome State Fault Refusal :=
  match cmdSelector s.cfg (headerCmd (operandA s)) with
  | some sel => .next (driveLookup (sel.setWidth 32) true s)
  | none => .next (driveLookup 0 false s)

end Sys2Proof.Machine
end

