-- ==== Sys2Proof/Machine/FieldExtract.lean ====
section
/-! DEFINITION. The version/status word's four extractors (45_field_extract.md R250 to R254). -/

namespace Sys2Proof.Machine

/-- VXSW: `R0 <- zext_32(A[14:0])` (45_field_extract.md R251). -/
def execVxsw (s : State) : Host.Outcome State Fault Refusal :=
  .next (driveR0 (((operandA s).extractLsb' 0 15).setWidth 32) s)

/-- VXREC: `R0 <- zext_32(A[15])` (45_field_extract.md R252). -/
def execVxrec (s : State) : Host.Outcome State Fault Refusal :=
  .next (driveR0 (((operandA s).extractLsb' 15 1).setWidth 32) s)

/-- VXFPGA: `R0 <- zext_32(A[31:16])` (45_field_extract.md R253). -/
def execVxfpga (s : State) : Host.Outcome State Fault Refusal :=
  .next (driveR0 (((operandA s).extractLsb' 16 16).setWidth 32) s)

/-- VXHW: `R0 <- zext_32(B[15:0])` (45_field_extract.md R254). -/
def execVxhw (s : State) : Host.Outcome State Fault Refusal :=
  .next (driveR0 (((operandB s).extractLsb' 0 16).setWidth 32) s)

end Sys2Proof.Machine
end

