-- ==== Sys2Proof/Machine/Packet.lean ====
section
/-! DEFINITION. The packet framer: the packet functions Build, Parse, FrameSerialize and FrameDeserialize
(44_packet.md R211 to R215), the operations that write `PKT` (R217, R218, R220, R221), those that read it (R219, R222,
R223) and IDLE (R224). -/

namespace Sys2Proof.Machine

/-! ## Packet functions -/

/-- The footer word: suffix and checksum (30_encoding.md R91, 44_packet.md R211). -/
def footerWord (cfg : Config) (hdr hi lo : Word) : Word :=
  (cfg.suffixValue.setWidth 32 <<< 16) |||
    (checksum cfg hdr hi lo (cfg.suffixValue.setWidth 32 <<< 16)).setWidth 32

/-- `Build`: the packet of an intent; an unrecognized selector is framed with Nop's pattern and marked invalid
(44_packet.md R211). -/
def build (cfg : Config) (sel : BitVec 5) (chan : BitVec 2) (isSet : Bool) (hi lo : Word) : Packet :=
  let hdr := headerWord cfg sel chan isSet
  { hdr := hdr, plh := hi, pll := lo, ftr := footerWord cfg hdr hi lo
    pv := recognized sel, pe := errorCode (recognitionKind (recognized sel)) }

/-- The first failing check of the four, in the order checksum, prefix, suffix, ack (44_packet.md R212, R213). -/
def classify (cfg : Config) (h hi lo f : Word) : ErrorKind :=
  if checksum cfg h hi lo f ≠ cksField f then .checksumFailure
  else if carriesPrefix cfg h = false then .framingError
  else if carriesSuffix cfg f = false then .framingError
  else if acknowledged h = false then .notAcknowledged
  else .none

/-- `Parse`: the four received words unchanged, with their classification; valid only if no check fails
(44_packet.md R212). -/
def parse (cfg : Config) (h hi lo f : Word) : Packet :=
  { hdr := h, plh := hi, pll := lo, ftr := f
    pv := classify cfg h hi lo f == .none, pe := errorCode (classify cfg h hi lo f) }

/-- `FrameSerialize`: header, payload, footer; `valid` and `err` are not serialized (44_packet.md R214). -/
def frameSerialize (p : Packet) : Bytes16 :=
  let h := encodeWord p.hdr
  let y := payloadSerialize p.plh p.pll
  let f := encodeWord p.ftr
  #v[h[0], h[1], h[2], h[3], y[0], y[1], y[2], y[3], y[4], y[5], y[6], y[7], f[0], f[1], f[2], f[3]]

/-- `FrameDeserialize`: the 4/8/4-byte spans fed to `Parse` (44_packet.md R215). -/
def frameDeserialize (cfg : Config) (b : Bytes16) : Packet :=
  parse cfg (decodeWord #v[b[0], b[1], b[2], b[3]]) (decodeWord #v[b[4], b[5], b[6], b[7]])
    (decodeWord #v[b[8], b[9], b[10], b[11]]) (decodeWord #v[b[12], b[13], b[14], b[15]])

/-! ## Operations that write PKT -/

/-- Build from the payload ports A and B and write `PKT` (44_packet.md R217). -/
def performBuild (sel : BitVec 5) (chan : BitVec 2) (isSet : Bool) (s : State) : State :=
  writePacket (build s.cfg sel chan isSet (operandA s) (operandB s)) s

/-- BUILD (44_packet.md R217). An unrecognized selector is no exception. -/
def execBuild (chan : BitVec 2) (isSet : Bool) (sel : BitVec 5) (s : State) : Host.Outcome State Fault Refusal :=
  .next (performBuild sel chan isSet s)

/-- PARSE: `Parse(A, B, C, D)` (44_packet.md R218). A failed check is a classification, not an exception. -/
def execParse (s : State) : Host.Outcome State Fault Refusal :=
  .next (writePacket (parse s.cfg (operandA s) (operandB s) (operandC s) (operandD s)) s)

/-- FDES: `FrameDeserialize(BIN[0..15])` (44_packet.md R220). -/
def execFdes (s : State) : Host.Outcome State Fault Refusal :=
  .next (writePacket (frameDeserialize s.cfg (binBytes16 s)) s)

/-- FAIL: the failed packet (44_packet.md R221). -/
def execFail (s : State) : Host.Outcome State Fault Refusal :=
  .next (writePacket failedPacket s)

/-! ## Operations that read PKT -/

/-- FSER: the frame of `PKT`, valid or not, with its `VALID` and `ERR` (44_packet.md R219). -/
def execFser (s : State) : Host.Outcome State Fault Refusal :=
  .next (respond { quiet with bout := frameSerialize s.pkt, valid := s.pkt.pv, err := s.pkt.pe } s)

/-- EXTRACT: the payload of `PKT`, not gated by its validity (44_packet.md R222). -/
def execExtract (s : State) : Host.Outcome State Fault Refusal :=
  .next (respond { quiet with r0 := s.pkt.plh, r1 := s.pkt.pll, valid := s.pkt.pv, err := s.pkt.pe } s)

/-- PKTRD: the whole packet (44_packet.md R223). -/
def execPktrd (s : State) : Host.Outcome State Fault Refusal :=
  .next (respond (packetResponse s.pkt) s)

/-- IDLE: every output is 0 and `PKT` is unchanged (44_packet.md R224). -/
def execIdle (s : State) : Host.Outcome State Fault Refusal :=
  .next (respond quiet s)

end Sys2Proof.Machine
end

