-- ==== Sys2Proof/Machine/HeaderCommand.lean ====
section
/-! DEFINITION. The 23 header commands (42_command_type.md R155 to R177). "The CPF treats every recognized command type
the same way. BUILD writes its pattern into header[11:4]": each meaning is the build of that command's selector from the
payload ports A and B. What the device does with the frame is outside the CPF (93_implementation_defined.md I18). -/

namespace Sys2Proof.Machine

/-- InitDevice: `BUILD cmd=InitDevice`, selector 0 (42_command_type.md R155). -/
def execInitDevice (isSet : Bool) (chan : BitVec 2) (s : State) : Host.Outcome State Fault Refusal :=
  .next (performBuild 0#5 chan isSet s)

/-- CaptureEnable: `BUILD cmd=CaptureEnable`, selector 1 (42_command_type.md R156). -/
def execCaptureEnable (isSet : Bool) (chan : BitVec 2) (s : State) : Host.Outcome State Fault Refusal :=
  .next (performBuild 1#5 chan isSet s)

/-- LOFrequency: `BUILD cmd=LOFrequency`, selector 2 (42_command_type.md R157). -/
def execLoFrequency (isSet : Bool) (chan : BitVec 2) (s : State) : Host.Outcome State Fault Refusal :=
  .next (performBuild 2#5 chan isSet s)

/-- Gain: `BUILD cmd=Gain`, selector 3 (42_command_type.md R158). -/
def execGain (isSet : Bool) (chan : BitVec 2) (s : State) : Host.Outcome State Fault Refusal :=
  .next (performBuild 3#5 chan isSet s)

/-- GainMode: `BUILD cmd=GainMode`, selector 4 (42_command_type.md R159). -/
def execGainMode (isSet : Bool) (chan : BitVec 2) (s : State) : Host.Outcome State Fault Refusal :=
  .next (performBuild 4#5 chan isSet s)

/-- Bandwidth: `BUILD cmd=Bandwidth`, selector 5 (42_command_type.md R160). -/
def execBandwidth (isSet : Bool) (chan : BitVec 2) (s : State) : Host.Outcome State Fault Refusal :=
  .next (performBuild 5#5 chan isSet s)

/-- SampleRate: `BUILD cmd=SampleRate`, selector 6 (42_command_type.md R161). -/
def execSampleRate (isSet : Bool) (chan : BitVec 2) (s : State) : Host.Outcome State Fault Refusal :=
  .next (performBuild 6#5 chan isSet s)

/-- IRFilterCfg: `BUILD cmd=IRFilterCfg`, selector 7 (42_command_type.md R162). -/
def execIrFilterCfg (isSet : Bool) (chan : BitVec 2) (s : State) : Host.Outcome State Fault Refusal :=
  .next (performBuild 7#5 chan isSet s)

/-- TransmitEnable: `BUILD cmd=TransmitEnable`, selector 8 (42_command_type.md R163). -/
def execTransmitEnable (isSet : Bool) (chan : BitVec 2) (s : State) : Host.Outcome State Fault Refusal :=
  .next (performBuild 8#5 chan isSet s)

/-- DeviceStatus: `BUILD cmd=DeviceStatus`, selector 9 (42_command_type.md R164). -/
def execDeviceStatus (isSet : Bool) (chan : BitVec 2) (s : State) : Host.Outcome State Fault Refusal :=
  .next (performBuild 9#5 chan isSet s)

/-- MultiplexMode: `BUILD cmd=MultiplexMode`, selector 10 (42_command_type.md R165). -/
def execMultiplexMode (isSet : Bool) (chan : BitVec 2) (s : State) : Host.Outcome State Fault Refusal :=
  .next (performBuild 10#5 chan isSet s)

/-- Reset: `BUILD cmd=Reset`, selector 11 (42_command_type.md R166). It frames a device command and does not reset the CPF (70_reset_and_hazards.md R300). -/
def execReset (isSet : Bool) (chan : BitVec 2) (s : State) : Host.Outcome State Fault Refusal :=
  .next (performBuild 11#5 chan isSet s)

/-- ReferenceSource: `BUILD cmd=ReferenceSource`, selector 12 (42_command_type.md R167). The CPF builds it if asked (93_implementation_defined.md I19). -/
def execReferenceSource (isSet : Bool) (chan : BitVec 2) (s : State) : Host.Outcome State Fault Refusal :=
  .next (performBuild 12#5 chan isSet s)

/-- IRFilterUse: `BUILD cmd=IRFilterUse`, selector 13 (42_command_type.md R168). -/
def execIrFilterUse (isSet : Bool) (chan : BitVec 2) (s : State) : Host.Outcome State Fault Refusal :=
  .next (performBuild 13#5 chan isSet s)

/-- AGCParams: `BUILD cmd=AGCParams`, selector 14 (42_command_type.md R169). The CPF builds it if asked (93_implementation_defined.md I19). -/
def execAgcParams (isSet : Bool) (chan : BitVec 2) (s : State) : Host.Outcome State Fault Refusal :=
  .next (performBuild 14#5 chan isSet s)

/-- CmdCounter: `BUILD cmd=CmdCounter`, selector 15 (42_command_type.md R170). -/
def execCmdCounter (isSet : Bool) (chan : BitVec 2) (s : State) : Host.Outcome State Fault Refusal :=
  .next (performBuild 15#5 chan isSet s)

/-- ChipsetID: `BUILD cmd=ChipsetID`, selector 16 (42_command_type.md R171). -/
def execChipsetId (isSet : Bool) (chan : BitVec 2) (s : State) : Host.Outcome State Fault Refusal :=
  .next (performBuild 16#5 chan isSet s)

/-- FirmwareUpdate: `BUILD cmd=FirmwareUpdate`, selector 17 (42_command_type.md R172). -/
def execFirmwareUpdate (isSet : Bool) (chan : BitVec 2) (s : State) : Host.Outcome State Fault Refusal :=
  .next (performBuild 17#5 chan isSet s)

/-- Temperature: `BUILD cmd=Temperature`, selector 18 (42_command_type.md R173). -/
def execTemperature (isSet : Bool) (chan : BitVec 2) (s : State) : Host.Outcome State Fault Refusal :=
  .next (performBuild 18#5 chan isSet s)

/-- ERMVersion: `BUILD cmd=ERMVersion`, selector 19 (42_command_type.md R174). -/
def execErmVersion (isSet : Bool) (chan : BitVec 2) (s : State) : Host.Outcome State Fault Refusal :=
  .next (performBuild 19#5 chan isSet s)

/-- DebugB: `BUILD cmd=DebugB`, selector 20 (42_command_type.md R175). -/
def execDebugB (isSet : Bool) (chan : BitVec 2) (s : State) : Host.Outcome State Fault Refusal :=
  .next (performBuild 20#5 chan isSet s)

/-- DebugA: `BUILD cmd=DebugA`, selector 21 (42_command_type.md R176). -/
def execDebugA (isSet : Bool) (chan : BitVec 2) (s : State) : Host.Outcome State Fault Refusal :=
  .next (performBuild 21#5 chan isSet s)

/-- Nop: `BUILD cmd=Nop`, selector 22 (42_command_type.md R177). Recognized and valid when built directly (R151). -/
def execNop (isSet : Bool) (chan : BitVec 2) (s : State) : Host.Outcome State Fault Refusal :=
  .next (performBuild 22#5 chan isSet s)

end Sys2Proof.Machine
end

