-- ==== Sys2Proof/Machine/Illegal.lean ====
section
/-! DEFINITION. The illegal requests, "performed as nothing" (60_exceptions.md R275; log entry 8). -/

namespace Sys2Proof.Machine

/-- `CTRL.OP` = 0x1E (60_exceptions.md R275). -/
def execReserved1E (s : State) : Host.Outcome State Fault Refusal :=
  .next (raiseIllegalRequest s)

/-- `CTRL.OP` = 0x1F (60_exceptions.md R275). -/
def execReserved1F (s : State) : Host.Outcome State Fault Refusal :=
  .next (raiseIllegalRequest s)

/-- A nonzero reserved bit; which one is not recorded (60_exceptions.md R275). -/
def execReservedBitsSet (_rsv1 : BitVec 15) (_rsv0 : BitVec 3) (_op : BitVec 5) (s : State) :
    Host.Outcome State Fault Refusal :=
  .next (raiseIllegalRequest s)

end Sys2Proof.Machine
end

