-- ==== Sys2Proof/Machine/Payload.lean ====
section
/-! DEFINITION. The payload unit (41_payload.md R123 to R135): constructors, views and the byte form. It holds no state
and reads no `PKT` (92_eei_decisions.md D34). -/

namespace Sys2Proof.Machine

/-! ## Constructors -/

/-- PEMPTY: (0, 0) (41_payload.md R123). -/
def execPempty (s : State) : Host.Outcome State Fault Refusal :=
  .next (driveR0R1 0 0 s)

/-- PBOOL: (0, zext(BARG)) (41_payload.md R124). -/
def execPbool (barg : Bool) (s : State) : Host.Outcome State Fault Refusal :=
  .next (driveR0R1 0 ((BitVec.ofBool barg).setWidth 32) s)

/-- PI32: (0, A), with no sign extension into the high word (41_payload.md R125). -/
def execPi32 (s : State) : Host.Outcome State Fault Refusal :=
  .next (driveR0R1 0 (operandA s) s)

/-- PU64: the halves of v = A ‖ B (41_payload.md R126). -/
def execPu64 (s : State) : Host.Outcome State Fault Refusal :=
  .next (driveR0R1 ((operand64 s).extractLsb' 32 32) ((operand64 s).extractLsb' 0 32) s)

/-- PPAIR: (A, B) (41_payload.md R127). -/
def execPpair (s : State) : Host.Outcome State Fault Refusal :=
  .next (driveR0R1 (operandA s) (operandB s) s)

/-! ## Views -/

/-- PHIGH: `R0 <- A` (41_payload.md R128). -/
def execPhigh (s : State) : Host.Outcome State Fault Refusal :=
  .next (driveR0 (operandA s) s)

/-- PLOW: `R0 <- B` (41_payload.md R129). -/
def execPlow (s : State) : Host.Outcome State Fault Refusal :=
  .next (driveR0 (operandB s) s)

/-- The `uint64` view: (zext_64(A) << 32) | zext_64(B) (41_payload.md R130). -/
def asUint64 (high low : Word) : BitVec 64 := (high.setWidth 64 <<< 32) ||| low.setWidth 64

/-- PASU64: the `uint64` view on `R0` (bits [63:32]) and `R1` (bits [31:0]) (41_payload.md R130). -/
def execPasu64 (s : State) : Host.Outcome State Fault Refusal :=
  .next (driveR0R1 ((asUint64 (operandA s) (operandB s)).extractLsb' 32 32)
    ((asUint64 (operandA s) (operandB s)).extractLsb' 0 32) s)

/-- PASU32: `R0 <- B` (41_payload.md R131). -/
def execPasu32 (s : State) : Host.Outcome State Fault Refusal :=
  .next (driveR0 (operandB s) s)

/-- PASI32: `R0 <- B`, to be read as i32(B) (41_payload.md R132, 00_scope.md R9). -/
def execPasi32 (s : State) : Host.Outcome State Fault Refusal :=
  .next (driveR0 (operandB s) s)

/-- PASBOOL: 1 for any nonzero low word (41_payload.md R133). -/
def execPasbool (s : State) : Host.Outcome State Fault Refusal :=
  .next (driveR0 (if operandB s != 0 then 1 else 0) s)

/-! ## Serialization -/

/-- PSER: `BOUT[0..7] <- PayloadSerialize(A, B)` (41_payload.md R134). -/
def execPser (s : State) : Host.Outcome State Fault Refusal :=
  .next (driveBout8 (payloadSerialize (operandA s) (operandB s)) s)

/-- PDES: `(R0, R1) <- PayloadDeserialize(BIN[0..7])` (41_payload.md R135). -/
def execPdes (s : State) : Host.Outcome State Fault Refusal :=
  .next (driveR0R1 (payloadDeserialize (binBytes8 s)).1 (payloadDeserialize (binBytes8 s)).2 s)

end Sys2Proof.Machine
end

