-- ==== Sys2Proof/Machine/WordCodec.lean ====
section
/-! DEFINITION. The word codec operations WENC and WDEC (40_word_codec.md R113, R114). -/

namespace Sys2Proof.Machine

/-- WENC: `BOUT[0..3] <- EncodeWord(A)` (40_word_codec.md R113). -/
def execWenc (s : State) : Host.Outcome State Fault Refusal :=
  .next (driveBout4 (encodeWord (operandA s)) s)

/-- WDEC: `R0 <- DecodeWord(BIN[0..3])` (40_word_codec.md R114). -/
def execWdec (s : State) : Host.Outcome State Fault Refusal :=
  .next (driveR0 (decodeWord (binBytes4 s)) s)

end Sys2Proof.Machine
end

