-- ==== Sys2Proof/Machine/Dispatch.lean ====
section
/-! DEFINITION. The dispatch: one arm per constructor of `Instr`, each one call of that instruction's meaning. -/

namespace Sys2Proof.Machine

/-- What the CPF does with one instruction on the request ports and `PKT` of the state (10_state.md R43). -/
def exec (i : Instr) (s : State) : Host.Outcome State Fault Refusal :=
  match i with
  | .idle => Sys2Proof.Machine.execIdle s
  | .wenc => Sys2Proof.Machine.execWenc s
  | .wdec => Sys2Proof.Machine.execWdec s
  | .pempty => Sys2Proof.Machine.execPempty s
  | .pbool barg => Sys2Proof.Machine.execPbool barg s
  | .pi32 => Sys2Proof.Machine.execPi32 s
  | .pu64 => Sys2Proof.Machine.execPu64 s
  | .ppair => Sys2Proof.Machine.execPpair s
  | .phigh => Sys2Proof.Machine.execPhigh s
  | .plow => Sys2Proof.Machine.execPlow s
  | .pasu64 => Sys2Proof.Machine.execPasu64 s
  | .pasu32 => Sys2Proof.Machine.execPasu32 s
  | .pasi32 => Sys2Proof.Machine.execPasi32 s
  | .pasbool => Sys2Proof.Machine.execPasbool s
  | .pser => Sys2Proof.Machine.execPser s
  | .pdes => Sys2Proof.Machine.execPdes s
  | .cmdenc sel => Sys2Proof.Machine.execCmdenc sel s
  | .cmddec => Sys2Proof.Machine.execCmddec s
  | .cksum => Sys2Proof.Machine.execCksum s
  | .build chan isSet sel => Sys2Proof.Machine.execBuild chan isSet sel s
  | .parse => Sys2Proof.Machine.execParse s
  | .fser => Sys2Proof.Machine.execFser s
  | .fdes => Sys2Proof.Machine.execFdes s
  | .fail => Sys2Proof.Machine.execFail s
  | .extract => Sys2Proof.Machine.execExtract s
  | .pktrd => Sys2Proof.Machine.execPktrd s
  | .vxsw => Sys2Proof.Machine.execVxsw s
  | .vxrec => Sys2Proof.Machine.execVxrec s
  | .vxfpga => Sys2Proof.Machine.execVxfpga s
  | .vxhw => Sys2Proof.Machine.execVxhw s
  | .reserved1E => Sys2Proof.Machine.execReserved1E s
  | .reserved1F => Sys2Proof.Machine.execReserved1F s
  | .reservedBitsSet rsv1 rsv0 op => Sys2Proof.Machine.execReservedBitsSet rsv1 rsv0 op s
  | .initDevice isSet chan => Sys2Proof.Machine.execInitDevice isSet chan s
  | .captureEnable isSet chan => Sys2Proof.Machine.execCaptureEnable isSet chan s
  | .loFrequency isSet chan => Sys2Proof.Machine.execLoFrequency isSet chan s
  | .gain isSet chan => Sys2Proof.Machine.execGain isSet chan s
  | .gainMode isSet chan => Sys2Proof.Machine.execGainMode isSet chan s
  | .bandwidth isSet chan => Sys2Proof.Machine.execBandwidth isSet chan s
  | .sampleRate isSet chan => Sys2Proof.Machine.execSampleRate isSet chan s
  | .irFilterCfg isSet chan => Sys2Proof.Machine.execIrFilterCfg isSet chan s
  | .transmitEnable isSet chan => Sys2Proof.Machine.execTransmitEnable isSet chan s
  | .deviceStatus isSet chan => Sys2Proof.Machine.execDeviceStatus isSet chan s
  | .multiplexMode isSet chan => Sys2Proof.Machine.execMultiplexMode isSet chan s
  | .reset isSet chan => Sys2Proof.Machine.execReset isSet chan s
  | .referenceSource isSet chan => Sys2Proof.Machine.execReferenceSource isSet chan s
  | .irFilterUse isSet chan => Sys2Proof.Machine.execIrFilterUse isSet chan s
  | .agcParams isSet chan => Sys2Proof.Machine.execAgcParams isSet chan s
  | .cmdCounter isSet chan => Sys2Proof.Machine.execCmdCounter isSet chan s
  | .chipsetId isSet chan => Sys2Proof.Machine.execChipsetId isSet chan s
  | .firmwareUpdate isSet chan => Sys2Proof.Machine.execFirmwareUpdate isSet chan s
  | .temperature isSet chan => Sys2Proof.Machine.execTemperature isSet chan s
  | .ermVersion isSet chan => Sys2Proof.Machine.execErmVersion isSet chan s
  | .debugB isSet chan => Sys2Proof.Machine.execDebugB isSet chan s
  | .debugA isSet chan => Sys2Proof.Machine.execDebugA isSet chan s
  | .nop isSet chan => Sys2Proof.Machine.execNop isSet chan s

end Sys2Proof.Machine
end

