-- ==== Sys2Proof/Machine/Fetch.lean ====
section
/-! DEFINITION. How a step takes what the host does next (10_state.md R30, R37, R69; log entries 4 and 6), and the
requests of the spec's written programs (30_encoding.md R88, R89). -/

namespace Sys2Proof.Machine

/-- The host's next event and the state after taking it; `none` when the host does nothing more. -/
def nextEvent (s : State) : Option (HostEvent × State) :=
  match s.host with
  | [] => none
  | e :: rest => some (e, { s with host := rest })

/-- The request's inputs on the ports, "all sampled in the step that performs it" (10_state.md R31). -/
def sample (r : Request) (s : State) : State := { s with req := r }

/-- The host's list with `CTRL` = w in the request that it presents next; the operand ports of that request stay. -/
def presentWord (w : Word) (s : State) : List HostEvent :=
  match s.host with
  | .request r :: rest => .request { r with ctrl := w } :: rest
  | .reset _ :: rest => .request { s.req with ctrl := w } :: rest
  | [] => [.request { s.req with ctrl := w }]

/-! ## Written requests -/

/-- The request of an instruction from its operands (30_encoding.md R88). -/
def requestOf (i : Instr) (a b c d : Word) (bin : Bytes16) : Request :=
  { ctrl := encodeCtrl i, a := a, b := b, c := c, d := d, bin := bin }

/-- Sixteen zero bytes: "bytes not given are 0" (30_encoding.md R88). -/
def zeroBytes : Bytes16 := #v[0, 0, 0, 0, 0, 0, 0, 0, 0, 0, 0, 0, 0, 0, 0, 0]

/-- The pseudo-request `TX`: BUILD, then FSER (30_encoding.md R89). -/
def txRequests (sel : BitVec 5) (chan : BitVec 2) (isSet : Bool) (hi lo : Word) : List Request :=
  [requestOf (.build chan isSet sel) hi lo 0 0 zeroBytes, requestOf .fser 0 0 0 0 zeroBytes]

/-- The pseudo-request `RX`: FDES, then EXTRACT (30_encoding.md R89). -/
def rxRequests (bin : Bytes16) : List Request :=
  [requestOf .fdes 0 0 0 0 bin, requestOf .extract 0 0 0 0 zeroBytes]

/-- The pseudo-request `VERSION`: VXSW, VXREC, VXFPGA on the high word, VXHW on the low word (30_encoding.md R89). -/
def versionRequests (hi lo : Word) : List Request :=
  [requestOf .vxsw hi 0 0 0 zeroBytes, requestOf .vxrec hi 0 0 0 zeroBytes,
   requestOf .vxfpga hi 0 0 0 zeroBytes, requestOf .vxhw 0 lo 0 0 zeroBytes]

end Sys2Proof.Machine
end

