-- ==== Sys2Proof/Machine/Step.lean ====
section
/-! DEFINITION. One step (10_state.md R43): the request that the host presents is decoded and performed completely, or
the reset event is applied. -/

namespace Sys2Proof.Machine

/-- Perform one presented request (10_state.md R43). A packet register outside the state space makes the step undefined
(93_implementation_defined.md I10; log entry 9). -/
def perform (r : Request) (s : State) : Host.Outcome State Fault Refusal :=
  if inStateSpace s.pkt then exec (decodeCtrl r.ctrl) (sample r s) else .fault .errorCodeOutsideStateSpace

/-- One step. Reset comes before the request of its step, which is discarded (70_reset_and_hazards.md R300). With
nothing presented nothing happens (log entry 5). -/
def step (s : State) : Host.Outcome State Fault Refusal :=
  match nextEvent s with
  | none => .next s
  | some (.reset _, t) => .next (applyReset t)
  | some (.request r, t) => perform r t

/-- The state with the host presenting, in the next step, the request whose control word is `w` (the bits above `nbits`
are 0). The operand ports keep their values (log entry 4). -/
def State.withFetchWord (s : State) (nbits w : Nat) : State :=
  { s with host := presentWord (BitVec.ofNat 32 (w % 2 ^ nbits)) s }

end Sys2Proof.Machine
end

