-- ==== Sys2Proof/Safety.lean ====
section
/-! DEFINITION. What the statements about the machine speak of: legal packets and responses (10_state.md R34, R35), a
conforming configuration (70_reset_and_hazards.md R302), frames (what stays the same), the inputs each operation reads
(30_encoding.md R81), what a run shows (70_reset_and_hazards.md R310) and the host's duties (R306 to R309). -/

namespace Sys2Proof.Machine

/-! ## Invariants -/

/-- "`PKT.PV == 1` ⇒ `PKT.PE == 0 (None)`. It also satisfies `PKT.PE ∈ {0,1,2,3,4,5}`" (10_state.md R35). -/
abbrev Packet.Legal (p : Packet) : Prop := (p.pv = true → p.pe = 0) ∧ p.pe.toNat ≤ 5

/-- A response the CPF can drive: a valid one has no error, the code is one of R34's, and an illegal request's has every
other output 0 (10_state.md R34, R42, 60_exceptions.md R275). -/
abbrev Response.Legal (r : Response) : Prop :=
  (r.valid = true → r.err = 0) ∧ r.err.toNat ≤ 5 ∧ (r.ill = true → r = { quiet with ill := true })

/-- The invariant of the state: a legal packet and a legal last response. -/
abbrev State.Inv (s : State) : Prop := s.pkt.Legal ∧ s.resp.Legal

/-! ## Conforming configurations -/

/-- The word with exactly bit `j` set. -/
def bitAt (j : Nat) : Word := BitVec.twoPow 32 j

/-- "Inverting exactly one of them must change `Checksum(h, hi, lo, f)`", at these words, for each of the 112 covered
bits: all of h, hi and lo, and f[31:16] (43_checksum.md R193). -/
def DetectsSingleFlipsAt (cfg : Config) (h hi lo f : Word) : Prop :=
  ∀ j : Fin 32,
    checksum cfg (h ^^^ bitAt j.val) hi lo f ≠ checksum cfg h hi lo f ∧
    checksum cfg h (hi ^^^ bitAt j.val) lo f ≠ checksum cfg h hi lo f ∧
    checksum cfg h hi (lo ^^^ bitAt j.val) f ≠ checksum cfg h hi lo f ∧
    (16 ≤ j.val → checksum cfg h hi lo (f ^^^ bitAt j.val) ≠ checksum cfg h hi lo f)

/-- `CHECKSUM_FN` meets 43_checksum.md R193: it detects single flips at all words. -/
def DetectsSingleFlips (cfg : Config) : Prop := ∀ h hi lo f : Word, DetectsSingleFlipsAt cfg h hi lo f

/-- The constants an instance may be built with (10_state.md R39, 70_reset_and_hazards.md R302). -/
def Conforming (cfg : Config) : Prop := cfg.cmdIdsDistinct = true ∧ DetectsSingleFlips cfg

/-! ## Frames -/

/-- Nothing changes from `s` to `t` but the response ports. -/
def OnlyResponseChanges (s t : State) : Prop :=
  t.cfg = s.cfg ∧ t.pkt = s.pkt ∧ t.req = s.req ∧ t.host = s.host

/-- Nothing changes from `s` to `t` but `PKT` and the response ports. -/
def OnlyPacketAndResponseChange (s t : State) : Prop :=
  t.cfg = s.cfg ∧ t.req = s.req ∧ t.host = s.host

/-- The operations that write `PKT`: "BUILD, PARSE, FDES and FAIL" (10_state.md R33); a header command is a BUILD. -/
def writesPacket (i : Instr) : Bool :=
  match i with
  | .build _ _ _ | .parse | .fdes | .fail => true
  | _ => i.headerFields?.isSome

/-- The illegal requests (30_encoding.md R82). -/
def isIllegal : Instr → Bool
  | .reserved1E | .reserved1F | .reservedBitsSet _ _ _ => true
  | _ => false

/-! ## Outputs -/

/-- The number k of a big-endian byte of a word, 0 the most significant (20_memory.md R62, R64). -/
def byteOf (w : Word) (k : Nat) : Nat := w.toNat / 256 ^ (3 - k) % 256

/-- The number that four big-endian bytes stand for (20_memory.md R62). -/
def wordValue (b0 b1 b2 b3 : Byte) : Nat :=
  b0.toNat * 2 ^ 24 + b1.toNat * 2 ^ 16 + b2.toNat * 2 ^ 8 + b3.toNat

/-- One shift of the CRC register as a number below 2^16: twice the number, cut to 16 bits, with 0x1021 added without carry
where bit 15 was 1 (43_checksum.md R191). -/
def crcShift (c : Nat) : Nat := if 2 ^ 15 ≤ c then (2 * c % 2 ^ 16) ^^^ 0x1021 else 2 * c

/-- Every byte of `BOUT` is 0. -/
def NoBytes (r : Response) : Prop := ∀ k : Fin 16, r.bout[k.val] = 0

/-- `VALID`, `ERR` and `ILL` are 0. -/
def NoFlags (r : Response) : Prop := r.valid = false ∧ r.err = 0 ∧ r.ill = false

/-- The response drives `R0` and `R1` with these words, and every other output is 0 (10_state.md R42). -/
def DrivesWords (r : Response) (x y : Word) : Prop :=
  r.r0 = x ∧ r.r1 = y ∧ r.r2 = 0 ∧ r.r3 = 0 ∧ NoBytes r ∧ NoFlags r

/-- The response drives `R0`, `VALID` and `ERR`, and every other output is 0. -/
def DrivesLookup (r : Response) (x : Word) (valid : Bool) (err : BitVec 3) : Prop :=
  r.r0 = x ∧ r.r1 = 0 ∧ r.r2 = 0 ∧ r.r3 = 0 ∧ NoBytes r ∧ r.valid = valid ∧ r.err = err ∧ r.ill = false

/-- The response reads the packet out on `R0` to `R3`, `VALID` and `ERR`, and every other output is 0
(44_packet.md R217). -/
def MirrorsPacket (r : Response) (p : Packet) : Prop :=
  r.r0 = p.hdr ∧ r.r1 = p.plh ∧ r.r2 = p.pll ∧ r.r3 = p.ftr ∧ NoBytes r ∧ r.valid = p.pv ∧ r.err = p.pe ∧
    r.ill = false

/-- `ILL` is 1 and every other output is 0 (60_exceptions.md R275). -/
def IndicatesIllegal (r : Response) : Prop :=
  r.r0 = 0 ∧ r.r1 = 0 ∧ r.r2 = 0 ∧ r.r3 = 0 ∧ NoBytes r ∧ r.valid = false ∧ r.err = 0 ∧ r.ill = true

/-- How many of `R0` to `R3` an operation drives (30_encoding.md R81, column "outputs driven"). -/
def drivenWords (i : Instr) : Nat :=
  match i with
  | .wdec | .phigh | .plow | .pasu32 | .pasi32 | .pasbool | .cmdenc _ | .cmddec | .cksum
  | .vxsw | .vxrec | .vxfpga | .vxhw => 1
  | .pempty | .pbool _ | .pi32 | .pu64 | .ppair | .pasu64 | .pdes | .extract => 2
  | .build _ _ _ | .parse | .fdes | .fail | .pktrd => 4
  | _ => if i.headerFields?.isSome then 4 else 0

/-- How many bytes of `BOUT`, from `BOUT[0]` on, an operation drives (20_memory.md R66). -/
def drivenBytes : Instr → Nat
  | .wenc => 4
  | .pser => 8
  | .fser => 16
  | _ => 0

/-- The operations that drive `VALID` and `ERR` (30_encoding.md R81, column "outputs driven"). -/
def drivesClassification (i : Instr) : Bool :=
  match i with
  | .cmdenc _ | .cmddec | .build _ _ _ | .parse | .fser | .fdes | .fail | .extract | .pktrd => true
  | _ => i.headerFields?.isSome

/-! ## Inputs read -/

/-- Two legal requests of one operation that agree on every input the operation reads (the column "inputs read" of
30_encoding.md R81; the `BIN` spans of 20_memory.md R66). The operation is named by its `OP` number. -/
def inputsAgree (op : Nat) (r r' : Request) : Prop :=
  match op with
  | 0x01 | 0x05 | 0x11 | 0x1A | 0x1B | 0x1C => r.a = r'.a
  | 0x02 => ∀ k : Fin 4, r.bin[k.val] = r'.bin[k.val]
  | 0x04 => r.ctrl.getLsbD 16 = r'.ctrl.getLsbD 16
  | 0x06 | 0x07 | 0x08 | 0x09 | 0x0A | 0x0B | 0x0C | 0x0D | 0x0E => r.a = r'.a ∧ r.b = r'.b
  | 0x0F => ∀ k : Fin 8, r.bin[k.val] = r'.bin[k.val]
  | 0x10 => r.ctrl.extractLsb' 8 5 = r'.ctrl.extractLsb' 8 5
  | 0x12 | 0x14 => r.a = r'.a ∧ r.b = r'.b ∧ r.c = r'.c ∧ r.d = r'.d
  | 0x13 => r.ctrl.extractLsb' 8 8 = r'.ctrl.extractLsb' 8 8 ∧ r.a = r'.a ∧ r.b = r'.b
  | 0x16 => r.bin = r'.bin
  | 0x1D => r.b = r'.b
  | _ => True

/-- "a request is legal when `(CTRL & 0xFFFE00E0) == 0` and `CTRL[4:0] <= 0x1D`" (30_encoding.md R82). -/
abbrev LegalCtrl (w : Word) : Prop := w &&& 0xFFFE00E0#32 = 0 ∧ (w.extractLsb' 0 5).toNat ≤ 0x1D

/-- "Encoding: `CTRL.OP = op`" of an operation's rule: every legal control word with that `OP` decodes to the operation,
with the fields it reads (30_encoding.md R81, R85, R86). -/
def OpSelects (op : BitVec 5) (i : Word → Instr) : Prop :=
  ∀ w : Word, LegalCtrl w → w.extractLsb' 0 5 = op → decodeCtrl w = i w

/-! ## What a run shows -/

/-- The observation of the first `k` steps: "the sequence of responses, one per request, and the value of `PKT` after the
last step" (70_reset_and_hazards.md R310). -/
def observe : Nat → State → List Response × Packet
  | 0, s => ([], s.pkt)
  | k + 1, s =>
    match step s with
    | .next t =>
      match s.host with
      | .request _ :: _ => (t.resp :: (observe k t).1, (observe k t).2)
      | _ => observe k t
    | .fault _ => ([], s.pkt)
    | .refused _ => ([], s.pkt)

/-! ## Host duties -/

/-- Where an exchange stands: none open, built and not yet serialized, serialized and with the transport, or received and
its payload not yet taken (70_reset_and_hazards.md R306). -/
inductive ExchangePhase where
  | free
  | built
  | framed
  | received
deriving DecidableEq, Repr

/-- The exchange after one more request with its response, or `none` where the host breaks single flight: a request that
writes `PKT` between BUILD and its FSER, or between FDES and its EXTRACT or PKTRD (70_reset_and_hazards.md R303, R306).
An invalid build or an invalid response opens nothing (R307, R308; DEDUCED, log entry 14). -/
def exchangeStep (phase : ExchangePhase) (i : Instr) (r : Response) : Option ExchangePhase :=
  match phase, i with
  | .built, .fser => some .framed
  | .received, .extract | .received, .pktrd => some .free
  | .built, j | .received, j => if writesPacket j then none else some phase
  | .free, .fdes | .framed, .fdes => some (if r.valid then .received else .free)
  | .free, j | .framed, j =>
    match j with
    | .parse | .fail => some .free
    | _ => if writesPacket j then some (if r.valid then .built else .free) else some phase

/-- The host keeps single flight over a sequence of requests with their responses (70_reset_and_hazards.md R306). -/
def singleFlight : ExchangePhase → List (Instr × Response) → Bool
  | _, [] => true
  | phase, (i, r) :: rest =>
    match exchangeStep phase i r with
    | some next => singleFlight next rest
    | none => false

/-- The host may transmit the bytes of an FSER: the packet it reports is valid (70_reset_and_hazards.md R307). -/
def mayTransmit (fserResponse : Response) : Bool := fserResponse.valid

/-- The host may use the payload of an EXTRACT (70_reset_and_hazards.md R308). -/
def mayUsePayload (extractResponse : Response) : Bool := extractResponse.valid

/-- The host may deserialize what it read: 16 bytes of one complete read (70_reset_and_hazards.md R309). -/
def mayDeserialize (bytesRead : Nat) : Bool := decide (bytesRead = 16)

end Sys2Proof.Machine
end

