-- ==== Sys2Proof/Certificates/Slice0/Obligations.lean ====
section
/-! DEFINITION. The statements for the provers, in the order of the spec's files. Each docstring names the rule of spec/
it formalises. -/

open Sys2Proof Sys2Proof.Machine

/-! ## Encodings -/

/-- 30_encoding.md R81, R82, R88, R90; 42_command_type.md R154: decoding an encoded well-formed instruction gives it back,
for the request rows from their control word and for the header commands from their header word, whatever the
configuration, as long as `CMD_ID` is injective. -/
def Obligations.DecodeInvertsEncode : Prop :=
  ∀ (cfg : Config), cfg.cmdIdsDistinct = true → ∀ (i : Instr), i.wellFormed = true →
    decode cfg i.format (encode cfg i) = .ok i

/-- 30_encoding.md R82, R83, R86: every control word decodes to a well-formed request, and its encoding, in which the
ignored bits are 0, decodes to the same. -/
def Obligations.EncodeKeepsWhatDecodeReads : Prop :=
  ∀ (w : Word), (decodeCtrl w).wellFormed = true ∧ (decodeCtrl w).format = .ctrl ∧
    decodeCtrl (encodeCtrl (decodeCtrl w)) = decodeCtrl w

/-- 30_encoding.md R80, R82, R88, R90: words written out from the tables decode to what they stand for. -/
def Obligations.WrittenWordsDecode : Prop :=
  decodeCtrl 0x00000000#32 = .idle ∧ decodeCtrl 0x00010004#32 = .pbool true ∧
  decodeCtrl 0x00001910#32 = .cmdenc 25#5 ∧ decodeCtrl 0x00006613#32 = .build 1#2 true 6#5 ∧
  decodeCtrl 0x0000001E#32 = .reserved1E ∧ decodeCtrl 0x80000000#32 = .reservedBitsSet 0x4000#15 0#3 0#5 ∧
  decodeHeader Config.defaults 0xA55A4061#32 = .ok (.sampleRate true 1#2) ∧
  decodeHeader Config.defaults 0x00000170#32 = .error (.unknownCommandPattern 0x17#8)

/-- 30_encoding.md R82: a control word is illegal exactly when `OP` is 0x1E or 0x1F or a reserved bit is set, in terms of
fields and in terms of the mask, and an illegal request is performed as 60_exceptions.md R275 says. -/
def Obligations.IllegalExactlyByReservedOpOrBits : Prop :=
  ∀ (w : Word),
    (isIllegal (decodeCtrl w) = true ↔
      (w.extractLsb' 0 5 = 0x1E#5 ∨ w.extractLsb' 0 5 = 0x1F#5 ∨ w.extractLsb' 17 15 ≠ 0 ∨ w.extractLsb' 5 3 ≠ 0)) ∧
    (isIllegal (decodeCtrl w) = false ↔ LegalCtrl w) ∧
    (isIllegal (decodeCtrl w) = true → ∀ s : State, ∃ t, exec (decodeCtrl w) s = .next t ∧
      OnlyResponseChanges s t ∧ IndicatesIllegal t.resp)

/-- 30_encoding.md R83: two legal requests of one operation that agree on the inputs it reads give the same response and
the same `PKT`, whatever else they hold. -/
def Obligations.UnreadInputsAreIgnored : Prop :=
  ∀ (s : State) (r r' : Request) (rest : List HostEvent), s.pkt.pe.toNat ≤ 5 → LegalCtrl r.ctrl → LegalCtrl r'.ctrl →
    r.ctrl.extractLsb' 0 5 = r'.ctrl.extractLsb' 0 5 → inputsAgree (r.ctrl.extractLsb' 0 5).toNat r r' →
    ∃ t t', step { s with host := .request r :: rest } = .next t ∧
      step { s with host := .request r' :: rest } = .next t' ∧
      t'.resp = t.resp ∧ t'.pkt = t.pkt

/-- 30_encoding.md R88, 42_command_type.md R150: the request `BUILD cmd=<name>` runs that header command, as an
instruction and as a step. -/
def Obligations.BuildRequestRunsItsHeaderCommand : Prop :=
  ∀ (sel : BitVec 5) (chan : BitVec 2) (isSet : Bool) (i : Instr), headerCommand? sel isSet chan = some i →
    (∀ s : State, exec (.build chan isSet sel) s = exec i s) ∧
    (∀ (s : State) (r : Request) (rest : List HostEvent), s.pkt.pe.toNat ≤ 5 → s.host = .request r :: rest →
      r.ctrl = encodeCtrl i → step s = exec i { s with host := rest, req := r })

/-! ## The step -/

/-- 10_state.md R43: a step performs the request presented: it is `exec` of the decoded control word, on the ports as the
request sets them, with the request taken from the host's list. -/
def Obligations.StepRunsThePresentedRequest : Prop :=
  ∀ (s : State) (r : Request) (rest : List HostEvent), s.pkt.pe.toNat ≤ 5 → s.host = .request r :: rest →
    step s = exec (decodeCtrl r.ctrl) { s with host := rest, req := r }

/-- 10_state.md R43, 93_implementation_defined.md I10: a step stops exactly when a request is presented and `PKT.PE` is 6
or 7; it never refuses, and otherwise it answers a next state. -/
def Obligations.StepStopsOnlyOutsideTheStateSpace : Prop :=
  ∀ (s : State),
    ((∃ f, step s = .fault f) ↔ 5 < s.pkt.pe.toNat ∧ ∃ r rest, s.host = .request r :: rest) ∧
    (∀ f, step s ≠ .refused f) ∧
    (s.pkt.pe.toNat ≤ 5 → ∃ t, step s = .next t)

/-- 10_state.md R34, R35, R42: every step keeps the invariant: a valid packet has error None, the code is one of 0 to 5,
and the last response is one the CPF can drive. -/
def Obligations.StepKeepsLegalPacketAndResponse : Prop :=
  ∀ (s t : State), s.Inv → step s = .next t → t.Inv

/-- 10_state.md R44: the state after reset. The configuration constants hold the spec's defaults there, which is the
model's choice (log entry 2). -/
def Obligations.ResetValues : Prop :=
  State.reset.Inv ∧ State.reset.cfg = Config.defaults ∧ State.reset.pkt.hdr = 0x00000000#32 ∧
  State.reset.pkt.plh = 0x00000000#32 ∧ State.reset.pkt.pll = 0x00000000#32 ∧ State.reset.pkt.ftr = 0x00000000#32 ∧
  State.reset.pkt.pv = false ∧ State.reset.pkt.pe = 4#3 ∧ DrivesWords State.reset.resp 0 0

/-- 70_reset_and_hazards.md R300: the reset event sets `PKT` to the failed packet and every output to 0, from any state,
leaves the constants, and discards a request presented in the same step; the device command Reset is a frame like any
other. That the discarded request is gone from the host's list (`t.host = rest`) is the model's reading, log entry 15; that
the header command Reset has the effect of BUILD of selector 11 is the model's reading, log entry 7. -/
def Obligations.ResetEvent : Prop :=
  (∀ (s : State) (presented : Option Request) (rest : List HostEvent), s.host = .reset presented :: rest →
    ∃ t, step s = .next t ∧ t.cfg = s.cfg ∧ t.host = rest ∧ t.pkt = State.reset.pkt ∧ t.resp = State.reset.resp ∧
      t.pkt = { hdr := 0, plh := 0, pll := 0, ftr := 0, pv := false, pe := 4 } ∧ DrivesWords t.resp 0 0) ∧
  (∀ (s : State) (isSet : Bool) (chan : BitVec 2),
    exec (.reset isSet chan) s = exec (.build chan isSet 11#5) s)

/-- 10_state.md R40: no step changes a configuration constant, not even reset. -/
def Obligations.ConfigurationNeverChanges : Prop :=
  ∀ (s t : State), step s = .next t → t.cfg = s.cfg

/-- 10_state.md R33: an operation that is not one of the writing ones leaves `PKT` and everything but the response ports;
a writing one changes `PKT` and the response ports alone, and the response reads the new `PKT` out. -/
def Obligations.OnlyWritingOperationsChangePacket : Prop :=
  ∀ (i : Instr) (s : State), ∃ t, exec i s = .next t ∧
    (writesPacket i = false → OnlyResponseChanges s t) ∧
    (writesPacket i = true → OnlyPacketAndResponseChange s t ∧ MirrorsPacket t.resp t.pkt)

/-- 10_state.md R33, 70_reset_and_hazards.md R300: if a step changes `PKT`, the host applied reset or presented a legal
request whose `OP` is that of BUILD, PARSE, FDES or FAIL. -/
def Obligations.PacketChangesOnlyByWritersAndReset : Prop :=
  ∀ (s t : State), step s = .next t → t.pkt ≠ s.pkt →
    (∃ presented rest, s.host = .reset presented :: rest) ∨
    (∃ r rest, s.host = .request r :: rest ∧ LegalCtrl r.ctrl ∧
      (r.ctrl.extractLsb' 0 5 = 0x13#5 ∨ r.ctrl.extractLsb' 0 5 = 0x14#5 ∨
       r.ctrl.extractLsb' 0 5 = 0x16#5 ∨ r.ctrl.extractLsb' 0 5 = 0x17#5))

/-- 10_state.md R42: every output that the operation's rule does not drive is 0, and no legal request drives `ILL`. That a
header command drives what BUILD drives is the model's reading, log entry 7. -/
def Obligations.UndrivenOutputsAreZero : Prop :=
  ∀ (i : Instr) (s : State), ∃ t, exec i s = .next t ∧
    (drivenWords i ≤ 0 → t.resp.r0 = 0) ∧ (drivenWords i ≤ 1 → t.resp.r1 = 0) ∧
    (drivenWords i ≤ 2 → t.resp.r2 = 0) ∧ (drivenWords i ≤ 3 → t.resp.r3 = 0) ∧
    (∀ k : Fin 16, drivenBytes i ≤ k.val → t.resp.bout[k.val] = 0) ∧
    (drivesClassification i = false → t.resp.valid = false ∧ t.resp.err = 0) ∧
    t.resp.ill = isIllegal i

/-- 20_memory.md R67, 10_state.md R38: the same request on the same `PKT` (and the same instance) gives the same response
and the same `PKT`, whatever the outputs and the ports held before. -/
def Obligations.ResponseDependsOnRequestAndPacketAlone : Prop :=
  ∀ (s s' : State) (r : Request) (rest rest' : List HostEvent), s.cfg = s'.cfg → s.pkt = s'.pkt → s.pkt.pe.toNat ≤ 5 →
    s.host = .request r :: rest → s'.host = .request r :: rest' →
    ∃ t t', step s = .next t ∧ step s' = .next t' ∧ t'.resp = t.resp ∧ t'.pkt = t.pkt

/-- 20_memory.md R67: repeating a request is idempotent. -/
def Obligations.RepeatedRequestIsIdempotent : Prop :=
  ∀ (s : State) (r : Request) (rest : List HostEvent), s.pkt.Legal →
    s.host = .request r :: .request r :: rest →
    ∃ t u, step s = .next t ∧ step t = .next u ∧ u.pkt = t.pkt ∧ u.resp = t.resp ∧ u.cfg = s.cfg

/-! ## Runs -/

/-- 10_state.md R41, 70_reset_and_hazards.md R310: what a run shows depends on the constants, `PKT` and the host's events
alone: there is no hidden state. -/
def Obligations.ObservationHasNoHiddenState : Prop :=
  ∀ (k : Nat) (s s' : State), s.cfg = s'.cfg → s.pkt = s'.pkt → s.host = s'.host → observe k s = observe k s'

/-- 70_reset_and_hazards.md R310: from a state that meets the invariant, a run performs every event the host has placed
and ends, with one response for each request and `PKT` as the observation. -/
def Obligations.RunEndsAfterItsLastEvent : Prop :=
  ∀ (s : State), s.Inv → ∃ t, core.run s.host.length s = .next t ∧ t.host = [] ∧ State.Inv t ∧ t.cfg = s.cfg ∧
    (observe s.host.length s).2 = t.pkt ∧
    (observe s.host.length s).1.length = (s.host.filter fun e => match e with | .request _ => true | .reset _ => false).length

/-- 20_memory.md R69, 70_reset_and_hazards.md R303: over any run of requests that write no `PKT`, the packet of the latest
earlier writing request stays as it is. -/
def Obligations.PacketPersistsUntilTheNextWriter : Prop :=
  ∀ (rs : List Request) (s : State) (rest : List HostEvent), s.pkt.pe.toNat ≤ 5 →
    s.host = rs.map .request ++ rest → (∀ r ∈ rs, writesPacket (decodeCtrl r.ctrl) = false) →
    ∃ t, core.run rs.length s = .next t ∧ t.pkt = s.pkt ∧ t.host = rest ∧ t.cfg = s.cfg

/-- 70_reset_and_hazards.md R303, R306 (the reading of single flight is the model's: log entry 14): while a packet waits
for its FSER, or for its EXTRACT or PKTRD, a request that keeps single flight leaves `PKT`. -/
def Obligations.SingleFlightKeepsTheWaitingPacket : Prop :=
  ∀ (phase next : ExchangePhase) (i : Instr) (s t : State), phase = .built ∨ phase = .received →
    exec i s = .next t → exchangeStep phase i t.resp = some next → t.pkt = s.pkt

/-! ## Illegal requests -/

/-- 60_exceptions.md R275: the three illegal rows complete with `ILL` = 1, every other output 0 and nothing else
changed. -/
def Obligations.IllegalInstructionsIndicateIll : Prop :=
  ∀ (s : State) (rsv1 : BitVec 15) (rsv0 : BitVec 3) (op : BitVec 5) (i : Instr),
    i = .reserved1E ∨ i = .reserved1F ∨ i = .reservedBitsSet rsv1 rsv0 op →
    ∃ t, exec i s = .next t ∧ OnlyResponseChanges s t ∧ IndicatesIllegal t.resp

/-- 60_exceptions.md R275: a step that is presented an illegal control word performs nothing but the indication. -/
def Obligations.IllegalRequestsArePerformedAsNothing : Prop :=
  ∀ (s : State) (r : Request) (rest : List HostEvent), s.pkt.pe.toNat ≤ 5 → s.host = .request r :: rest →
    ¬ LegalCtrl r.ctrl →
    ∃ t, step s = .next t ∧ t.pkt = s.pkt ∧ t.cfg = s.cfg ∧ t.host = rest ∧ t.req = r ∧ IndicatesIllegal t.resp

/-! ## Word codec -/

/-- 40_word_codec.md R112: the codec's two functions are inverse to each other. -/
def Obligations.WordCodecIsInverse : Prop :=
  (∀ w : Word, decodeWord (encodeWord w) = w) ∧ (∀ b : Bytes4, encodeWord (decodeWord b) = b)

/-- 40_word_codec.md R113: WENC drives BOUT[0..3] with the bytes of A, most significant first, and nothing else. -/
def Obligations.WordEncodeResult : Prop :=
  OpSelects 0x01#5 (fun _ => .wenc) ∧
  ∀ (s : State), ∃ t, exec .wenc s = .next t ∧ OnlyResponseChanges s t ∧
    (∀ k : Fin 16, t.resp.bout[k.val].toNat = if k.val < 4 then byteOf s.req.a k.val else 0) ∧
    t.resp.r0 = 0 ∧ t.resp.r1 = 0 ∧ t.resp.r2 = 0 ∧ t.resp.r3 = 0 ∧ NoFlags t.resp

/-- 40_word_codec.md R114: WDEC drives R0 with the big-endian word of BIN[0..3], and nothing else. -/
def Obligations.WordDecodeResult : Prop :=
  OpSelects 0x02#5 (fun _ => .wdec) ∧
  ∀ (s : State), ∃ t x, exec .wdec s = .next t ∧ OnlyResponseChanges s t ∧ DrivesWords t.resp x 0 ∧
    x.toNat = wordValue s.req.bin[0] s.req.bin[1] s.req.bin[2] s.req.bin[3]

/-! ## Payload unit -/

/-- 41_payload.md R123 to R127: the five constructors. PI32 keeps the signed value in the low word and extends nothing
into the high word; PU64 splits the 64-bit value A ‖ B. -/
def Obligations.PayloadConstructorResults : Prop :=
  OpSelects 0x03#5 (fun _ => .pempty) ∧ OpSelects 0x04#5 (fun w => .pbool (w.getLsbD 16)) ∧
  OpSelects 0x05#5 (fun _ => .pi32) ∧ OpSelects 0x06#5 (fun _ => .pu64) ∧
  OpSelects 0x07#5 (fun _ => .ppair) ∧
  ∀ (s : State) (barg : Bool),
    (∃ t, exec .pempty s = .next t ∧ OnlyResponseChanges s t ∧ DrivesWords t.resp 0 0) ∧
    (∃ t, exec (.pbool barg) s = .next t ∧ OnlyResponseChanges s t ∧ DrivesWords t.resp 0 (if barg then 1 else 0)) ∧
    (∃ t x, exec .pi32 s = .next t ∧ OnlyResponseChanges s t ∧ DrivesWords t.resp 0 x ∧ x = s.req.a ∧
      x.toInt = s.req.a.toInt) ∧
    (∃ t x y, exec .pu64 s = .next t ∧ OnlyResponseChanges s t ∧ DrivesWords t.resp x y ∧
      x.toNat = (s.req.a.toNat * 2 ^ 32 + s.req.b.toNat) / 2 ^ 32 ∧
      y.toNat = (s.req.a.toNat * 2 ^ 32 + s.req.b.toNat) % 2 ^ 32) ∧
    (∃ t, exec .ppair s = .next t ∧ OnlyResponseChanges s t ∧ DrivesWords t.resp s.req.a s.req.b)

/-- 41_payload.md R128 to R133: the six views of the payload (A, B). PASU64 is (high << 32) | low; PASI32 is read as the
two's-complement number of B; PASBOOL is 1 for any nonzero low word. -/
def Obligations.PayloadViewResults : Prop :=
  OpSelects 0x08#5 (fun _ => .phigh) ∧ OpSelects 0x09#5 (fun _ => .plow) ∧
  OpSelects 0x0A#5 (fun _ => .pasu64) ∧ OpSelects 0x0B#5 (fun _ => .pasu32) ∧
  OpSelects 0x0C#5 (fun _ => .pasi32) ∧ OpSelects 0x0D#5 (fun _ => .pasbool) ∧
  ∀ (s : State),
    (∃ t, exec .phigh s = .next t ∧ OnlyResponseChanges s t ∧ DrivesWords t.resp s.req.a 0) ∧
    (∃ t, exec .plow s = .next t ∧ OnlyResponseChanges s t ∧ DrivesWords t.resp s.req.b 0) ∧
    (∃ t x y, exec .pasu64 s = .next t ∧ OnlyResponseChanges s t ∧ DrivesWords t.resp x y ∧
      x.toNat * 2 ^ 32 + y.toNat = s.req.a.toNat * 2 ^ 32 + s.req.b.toNat) ∧
    (∃ t, exec .pasu32 s = .next t ∧ OnlyResponseChanges s t ∧ DrivesWords t.resp s.req.b 0) ∧
    (∃ t x, exec .pasi32 s = .next t ∧ OnlyResponseChanges s t ∧ DrivesWords t.resp x 0 ∧
      x.toInt = (if s.req.b.getLsbD 31 then (s.req.b.toNat : Int) - 4294967296 else (s.req.b.toNat : Int))) ∧
    (∃ t, exec .pasbool s = .next t ∧ OnlyResponseChanges s t ∧
      DrivesWords t.resp (if s.req.b.toNat = 0 then 0 else 1) 0)

/-- 41_payload.md R134: PSER drives BOUT[0..7] with the high word, then the low word, each big-endian. -/
def Obligations.PayloadSerializeResult : Prop :=
  OpSelects 0x0E#5 (fun _ => .pser) ∧
  ∀ (s : State), ∃ t, exec .pser s = .next t ∧ OnlyResponseChanges s t ∧
    (∀ k : Fin 16, t.resp.bout[k.val].toNat =
      if k.val < 4 then byteOf s.req.a k.val else if k.val < 8 then byteOf s.req.b (k.val - 4) else 0) ∧
    t.resp.r0 = 0 ∧ t.resp.r1 = 0 ∧ t.resp.r2 = 0 ∧ t.resp.r3 = 0 ∧ NoFlags t.resp

/-- 41_payload.md R135: PDES drives R0 and R1 with the big-endian words of BIN[0..3] and BIN[4..7]. -/
def Obligations.PayloadDeserializeResult : Prop :=
  OpSelects 0x0F#5 (fun _ => .pdes) ∧
  ∀ (s : State), ∃ t x y, exec .pdes s = .next t ∧ OnlyResponseChanges s t ∧ DrivesWords t.resp x y ∧
    x.toNat = wordValue s.req.bin[0] s.req.bin[1] s.req.bin[2] s.req.bin[3] ∧
    y.toNat = wordValue s.req.bin[4] s.req.bin[5] s.req.bin[6] s.req.bin[7]

/-- 41_payload.md R136: the bytes that PSER drives, presented to PDES on any state, give the payload back. -/
def Obligations.PayloadSerializationRoundTrips : Prop :=
  ∀ (s v : State), ∃ t u, exec .pser s = .next t ∧
    exec .pdes { v with req := { v.req with bin := t.resp.bout } } = .next u ∧ DrivesWords u.resp s.req.a s.req.b

/-! ## Command-type table -/

/-- 42_command_type.md R178: CMDENC gives the table's pattern with VALID = 1 for a recognized selector, and Nop's pattern
with VALID = 0 and ERR = 5 for 23 to 31. -/
def Obligations.CommandEncodeResult : Prop :=
  OpSelects 0x10#5 (fun w => .cmdenc (w.extractLsb' 8 5)) ∧
  ∀ (s : State) (sel : BitVec 5),
    (∀ h : sel.toNat ≤ 22, ∃ t, exec (.cmdenc sel) s = .next t ∧ OnlyResponseChanges s t ∧
      DrivesLookup t.resp (s.cfg.cmdId[sel.toNat].setWidth 32) true 0) ∧
    (22 < sel.toNat → ∃ t, exec (.cmdenc sel) s = .next t ∧ OnlyResponseChanges s t ∧
      DrivesLookup t.resp (s.cfg.cmdId[22].setWidth 32) false 5)

/-- 42_command_type.md R179: with an injective table, CMDDEC gives the selector whose pattern is A[11:4] with VALID = 1,
and 0 with VALID = 0 and ERR = 5 where no entry has it. -/
def Obligations.CommandDecodeResult : Prop :=
  OpSelects 0x11#5 (fun _ => .cmddec) ∧
  ∀ (s : State), s.cfg.cmdIdsDistinct = true → ∃ t, exec .cmddec s = .next t ∧ OnlyResponseChanges s t ∧
    (∀ k : Fin 23, s.cfg.cmdId[k.val].toNat = s.req.a.toNat / 16 % 256 →
      DrivesLookup t.resp (BitVec.ofNat 32 k.val) true 0) ∧
    ((∀ k : Fin 23, s.cfg.cmdId[k.val].toNat ≠ s.req.a.toNat / 16 % 256) → DrivesLookup t.resp 0 false 5)

/-- 42_command_type.md R180: the two directions of the table agree, and every unrecognized selector has Nop's pattern. -/
def Obligations.CommandTableIsConsistent : Prop :=
  ∀ (cfg : Config), cfg.cmdIdsDistinct = true → ∀ (sel : BitVec 5),
    (sel.toNat ≤ 22 → cmdSelector cfg (cmdPattern cfg sel) = some sel) ∧
    (23 ≤ sel.toNat → cmdPattern cfg sel = cmdPattern cfg 22#5)

/-- 42_command_type.md R155 to R166: each command is the BUILD of its selector, with the selector's number as its pattern
in header[11:4]. With the default prefix and patterns the header is the stated word for a get on channel 0, plus 0x4000
for a set, plus the channel; the payload is A, B and the packet is valid. The rules state what BUILD gives; that `exec` of
the header command answers the next state of that BUILD is the model's reading of the table's rows, log entry 7. -/
def Obligations.HeaderCommandsInitDeviceToReset : Prop :=
  ∀ (s : State), s.cfg.prefixValue = 0xA55A#16 → s.cfg.cmdId = Config.defaults.cmdId →
    ∀ p ∈ [(0#5, Instr.initDevice, 0xA55A0000#32), (1#5, Instr.captureEnable, 0xA55A0010#32),
      (2#5, Instr.loFrequency, 0xA55A0020#32), (3#5, Instr.gain, 0xA55A0030#32),
      (4#5, Instr.gainMode, 0xA55A0040#32), (5#5, Instr.bandwidth, 0xA55A0050#32),
      (6#5, Instr.sampleRate, 0xA55A0060#32), (7#5, Instr.irFilterCfg, 0xA55A0070#32),
      (8#5, Instr.transmitEnable, 0xA55A0080#32), (9#5, Instr.deviceStatus, 0xA55A0090#32),
      (10#5, Instr.multiplexMode, 0xA55A00A0#32), (11#5, Instr.reset, 0xA55A00B0#32)],
    ∀ (isSet : Bool) (chan : BitVec 2), ∃ t, exec (p.2.1 isSet chan) s = .next t ∧
      exec (.build chan isSet p.1) s = .next t ∧ headerCommand? p.1 isSet chan = some (p.2.1 isSet chan) ∧
      OnlyPacketAndResponseChange s t ∧ t.pkt.hdr.extractLsb' 4 8 = p.1.setWidth 8 ∧
      t.pkt.hdr = p.2.2 + (if isSet then 0x4000#32 else 0#32) + chan.setWidth 32 ∧
      t.pkt.plh = s.req.a ∧ t.pkt.pll = s.req.b ∧ t.pkt.pv = true ∧ t.pkt.pe = 0 ∧ MirrorsPacket t.resp t.pkt

/-- 42_command_type.md R167 to R177: the same for the other eleven commands. That `exec` of the header command answers the
next state of its BUILD is here, too, the model's reading, log entry 7. -/
def Obligations.HeaderCommandsReferenceSourceToNop : Prop :=
  ∀ (s : State), s.cfg.prefixValue = 0xA55A#16 → s.cfg.cmdId = Config.defaults.cmdId →
    ∀ p ∈ [(12#5, Instr.referenceSource, 0xA55A00C0#32), (13#5, Instr.irFilterUse, 0xA55A00D0#32),
      (14#5, Instr.agcParams, 0xA55A00E0#32), (15#5, Instr.cmdCounter, 0xA55A00F0#32),
      (16#5, Instr.chipsetId, 0xA55A0100#32), (17#5, Instr.firmwareUpdate, 0xA55A0110#32),
      (18#5, Instr.temperature, 0xA55A0120#32), (19#5, Instr.ermVersion, 0xA55A0130#32),
      (20#5, Instr.debugB, 0xA55A0140#32), (21#5, Instr.debugA, 0xA55A0150#32),
      (22#5, Instr.nop, 0xA55A0160#32)],
    ∀ (isSet : Bool) (chan : BitVec 2), ∃ t, exec (p.2.1 isSet chan) s = .next t ∧
      exec (.build chan isSet p.1) s = .next t ∧ headerCommand? p.1 isSet chan = some (p.2.1 isSet chan) ∧
      OnlyPacketAndResponseChange s t ∧ t.pkt.hdr.extractLsb' 4 8 = p.1.setWidth 8 ∧
      t.pkt.hdr = p.2.2 + (if isSet then 0x4000#32 else 0#32) + chan.setWidth 32 ∧
      t.pkt.plh = s.req.a ∧ t.pkt.pll = s.req.b ∧ t.pkt.pv = true ∧ t.pkt.pe = 0 ∧ MirrorsPacket t.resp t.pkt

/-- 30_encoding.md R94, 42_command_type.md R180: CMDDEC of the header that BUILD wrote for a recognized selector gives the
selector. -/
def Obligations.CommandDecodeOfBuiltHeader : Prop :=
  ∀ (s : State) (chan : BitVec 2) (isSet : Bool) (sel : BitVec 5), s.cfg.cmdIdsDistinct = true → sel.toNat ≤ 22 →
    ∃ t u, exec (.build chan isSet sel) s = .next t ∧
      exec .cmddec { t with req := { t.req with a := t.pkt.hdr } } = .next u ∧
      DrivesLookup u.resp (sel.setWidth 32) true 0

/-! ## Checksum generator -/

/-- 43_checksum.md R190: the checksum is `CHECKSUM_FN` of the words with the footer's low half cleared, so it never depends
on that half. -/
def Obligations.ChecksumIgnoresItsOwnField : Prop :=
  ∀ (cfg : Config) (h hi lo : Word) (suffix cks : Half),
    checksum cfg h hi lo (suffix ++ cks) = checksumFn cfg h hi lo (suffix ++ 0#16)

/-- 43_checksum.md R192: the check values of the default CRC. -/
def Obligations.DefaultCrcCheckValues : Prop :=
  crc16 [0x31#8, 0x32#8, 0x33#8, 0x34#8, 0x35#8, 0x36#8, 0x37#8, 0x38#8, 0x39#8] = 0x29B1#16 ∧
  crc16 (List.replicate 16 0x00#8) = 0x6A0A#16

/-- 43_checksum.md R193, R195: with the default CRC, inverting exactly one covered bit changes the checksum; with the
default patterns the instance is conforming. -/
def Obligations.DefaultChecksumDetectsSingleFlips : Prop :=
  (∀ cfg : Config, cfg.checksumFn = .crc16 → DetectsSingleFlips cfg) ∧ Conforming Config.defaults

/-- 43_checksum.md R196: CKSUM drives R0 with the zero-extended checksum of A, B, C, D and nothing else; D[15:0] is
ignored. -/
def Obligations.ChecksumOperationResult : Prop :=
  OpSelects 0x12#5 (fun _ => .cksum) ∧
  ∀ (s : State), ∃ t x, exec .cksum s = .next t ∧ OnlyResponseChanges s t ∧ DrivesWords t.resp x 0 ∧
    x.toNat = (checksum s.cfg s.req.a s.req.b s.req.c s.req.d).toNat ∧
    ∀ low : Half, exec .cksum { s with req := { s.req with d := s.req.d.extractLsb' 16 16 ++ low } } =
      .next { t with req := { s.req with d := s.req.d.extractLsb' 16 16 ++ low } }

/-! ## Packet framer -/

/-- 30_encoding.md R90, R91; 44_packet.md R211, R217: BUILD's packet, field by field, and its response. -/
def Obligations.BuildResult : Prop :=
  OpSelects 0x13#5 (fun w => .build (w.extractLsb' 14 2) (w.getLsbD 13) (w.extractLsb' 8 5)) ∧
  ∀ (s : State) (chan : BitVec 2) (isSet : Bool) (sel : BitVec 5), ∃ t, exec (.build chan isSet sel) s = .next t ∧
    OnlyPacketAndResponseChange s t ∧
    t.pkt.hdr.extractLsb' 16 16 = s.cfg.prefixValue ∧ t.pkt.hdr.getLsbD 15 = false ∧ t.pkt.hdr.getLsbD 14 = isSet ∧
    t.pkt.hdr.extractLsb' 12 2 = 0 ∧
    t.pkt.hdr.extractLsb' 4 8 = (if h : sel.toNat ≤ 22 then s.cfg.cmdId[sel.toNat] else s.cfg.cmdId[22]) ∧
    t.pkt.hdr.extractLsb' 2 2 = 0 ∧ t.pkt.hdr.extractLsb' 0 2 = chan ∧
    t.pkt.plh = s.req.a ∧ t.pkt.pll = s.req.b ∧
    t.pkt.ftr.extractLsb' 16 16 = s.cfg.suffixValue ∧
    t.pkt.ftr.extractLsb' 0 16 = checksum s.cfg t.pkt.hdr s.req.a s.req.b (s.cfg.suffixValue ++ 0#16) ∧
    (sel.toNat ≤ 22 → t.pkt.pv = true ∧ t.pkt.pe = 0) ∧ (22 < sel.toNat → t.pkt.pv = false ∧ t.pkt.pe = 5) ∧
    MirrorsPacket t.resp t.pkt

/-- 44_packet.md R212, R213, R218: PARSE keeps the four received words, and the first failing check, in the order
checksum, prefix, suffix, ack, decides validity and error. -/
def Obligations.ParseResult : Prop :=
  OpSelects 0x14#5 (fun _ => .parse) ∧
  ∀ (s : State), ∃ t, exec .parse s = .next t ∧ OnlyPacketAndResponseChange s t ∧
    t.pkt.hdr = s.req.a ∧ t.pkt.plh = s.req.b ∧ t.pkt.pll = s.req.c ∧ t.pkt.ftr = s.req.d ∧
    (t.pkt.pv, t.pkt.pe) =
      (if checksum s.cfg s.req.a s.req.b s.req.c s.req.d ≠ s.req.d.extractLsb' 0 16 then (false, 1#3)
       else if s.req.a.extractLsb' 16 16 ≠ s.cfg.prefixValue then (false, 2#3)
       else if s.req.d.extractLsb' 16 16 ≠ s.cfg.suffixValue then (false, 2#3)
       else if s.req.a.getLsbD 15 = true then (false, 3#3)
       else (true, 0#3)) ∧
    MirrorsPacket t.resp t.pkt

/-- 30_encoding.md R93: whatever SG, CMD, CHAN and the reserved bits of the header hold, PARSE answers valid exactly if the
four checks pass. -/
def Obligations.ParseReadsNoOtherHeaderField : Prop :=
  ∀ (s : State) (fields : BitVec 15) (ack : BitVec 1) (cks : Half),
    s.req.a = s.cfg.prefixValue ++ ack ++ fields → s.req.d = s.cfg.suffixValue ++ cks →
    ∃ t, exec .parse s = .next t ∧
      (t.pkt.pv = true ↔ ack = 0#1 ∧ cks = checksum s.cfg s.req.a s.req.b s.req.c (s.cfg.suffixValue ++ 0#16))

/-- 44_packet.md R214, R219; 20_memory.md R63: FSER drives the 16 bytes of `PKT`, byte k being byte k mod 4 of word k div 4,
valid or not, with its VALID and ERR. -/
def Obligations.FrameSerializeResult : Prop :=
  OpSelects 0x15#5 (fun _ => .fser) ∧
  ∀ (s : State), ∃ t, exec .fser s = .next t ∧ OnlyResponseChanges s t ∧
    (∀ k : Fin 16, t.resp.bout[k.val].toNat =
      byteOf (if k.val < 4 then s.pkt.hdr else if k.val < 8 then s.pkt.plh
        else if k.val < 12 then s.pkt.pll else s.pkt.ftr) (k.val % 4)) ∧
    t.resp.valid = s.pkt.pv ∧ t.resp.err = s.pkt.pe ∧ t.resp.ill = false ∧
    t.resp.r0 = 0 ∧ t.resp.r1 = 0 ∧ t.resp.r2 = 0 ∧ t.resp.r3 = 0

/-- 44_packet.md R215, R220: FDES gives the packet and the response that PARSE gives on the four big-endian words of
BIN[0..15]. -/
def Obligations.FrameDeserializeResult : Prop :=
  OpSelects 0x16#5 (fun _ => .fdes) ∧
  ∀ (s : State) (h hi lo f : Word),
    h.toNat = wordValue s.req.bin[0] s.req.bin[1] s.req.bin[2] s.req.bin[3] →
    hi.toNat = wordValue s.req.bin[4] s.req.bin[5] s.req.bin[6] s.req.bin[7] →
    lo.toNat = wordValue s.req.bin[8] s.req.bin[9] s.req.bin[10] s.req.bin[11] →
    f.toNat = wordValue s.req.bin[12] s.req.bin[13] s.req.bin[14] s.req.bin[15] →
    ∃ t u, exec .fdes s = .next t ∧ OnlyPacketAndResponseChange s t ∧
      exec .parse { s with req := { s.req with a := h, b := hi, c := lo, d := f } } = .next u ∧
      t.pkt = u.pkt ∧ t.resp = u.resp ∧ MirrorsPacket t.resp t.pkt

/-- 44_packet.md R216, R221: FAIL writes the failed packet, the `PKT` of reset. -/
def Obligations.FailResult : Prop :=
  OpSelects 0x17#5 (fun _ => .fail) ∧
  ∀ (s : State), ∃ t, exec .fail s = .next t ∧ OnlyPacketAndResponseChange s t ∧
    t.pkt = { hdr := 0, plh := 0, pll := 0, ftr := 0, pv := false, pe := 4 } ∧ t.pkt = State.reset.pkt ∧
    DrivesLookup t.resp 0 false 4

/-- 44_packet.md R222, R223, R224: EXTRACT reads the payload of `PKT` out, valid or not, PKTRD the whole packet, IDLE
nothing. -/
def Obligations.PacketReadResults : Prop :=
  OpSelects 0x18#5 (fun _ => .extract) ∧ OpSelects 0x19#5 (fun _ => .pktrd) ∧
  OpSelects 0x00#5 (fun _ => .idle) ∧
  ∀ (s : State),
    (∃ t, exec .extract s = .next t ∧ OnlyResponseChanges s t ∧ t.resp.r0 = s.pkt.plh ∧ t.resp.r1 = s.pkt.pll ∧
      t.resp.r2 = 0 ∧ t.resp.r3 = 0 ∧ NoBytes t.resp ∧ t.resp.valid = s.pkt.pv ∧ t.resp.err = s.pkt.pe ∧
      t.resp.ill = false) ∧
    (∃ t, exec .pktrd s = .next t ∧ OnlyResponseChanges s t ∧ MirrorsPacket t.resp s.pkt) ∧
    (∃ t, exec .idle s = .next t ∧ OnlyResponseChanges s t ∧ DrivesWords t.resp 0 0)

/-- 44_packet.md R225: the bytes that FSER gives after a BUILD of a recognized command, presented to FDES of the same
instance, give back the built packet, valid and without error. -/
def Obligations.OwnFramesParseValid : Prop :=
  ∀ (s : State) (chan : BitVec 2) (isSet : Bool) (sel : BitVec 5), sel.toNat ≤ 22 →
    ∃ t u v, exec (.build chan isSet sel) s = .next t ∧ exec .fser t = .next u ∧
      exec .fdes { u with req := { u.req with bin := u.resp.bout } } = .next v ∧
      v.pkt = t.pkt ∧ v.resp.valid = true ∧ v.resp.err = 0

/-- 44_packet.md R226: a frame that FDES finds valid, with exactly one bit inverted, gives ChecksumFailure, for every
`CHECKSUM_FN` that meets R193; what R193 asks is needed at the words of this frame only. -/
def Obligations.SingleBitCorruptionIsCaught : Prop :=
  ∀ (s t : State) (k : Fin 16) (j : Fin 8), exec .fdes s = .next t → t.pkt.pv = true →
    DetectsSingleFlipsAt s.cfg t.pkt.hdr t.pkt.plh t.pkt.pll t.pkt.ftr →
    ∃ u, exec .fdes { s with req := { s.req with
        bin := s.req.bin.set k.val (s.req.bin[k.val] ^^^ BitVec.twoPow 8 j.val) } } = .next u ∧
      u.pkt.pv = false ∧ u.pkt.pe = 1 ∧ u.resp.valid = false ∧ u.resp.err = 1

/-- 44_packet.md R227: an unrecognized build is invalid, its bytes are those of the build of Nop, and they parse valid. -/
def Obligations.UnrecognizedBuildFramesAsNop : Prop :=
  ∀ (s : State) (chan : BitVec 2) (isSet : Bool) (sel : BitVec 5), 23 ≤ sel.toNat →
    ∃ t u t' u' v, exec (.build chan isSet sel) s = .next t ∧ exec .fser t = .next u ∧
      exec (.build chan isSet 22#5) s = .next t' ∧ exec .fser t' = .next u' ∧
      exec .fdes { u with req := { u.req with bin := u.resp.bout } } = .next v ∧
      t.pkt.pv = false ∧ t.resp.err = 5 ∧ u.resp.bout = u'.resp.bout ∧ v.resp.valid = true ∧ v.resp.err = 0

/-! ## Field extractor -/

/-- 45_field_extract.md R251 to R254: the four extractors. -/
def Obligations.VersionFieldResults : Prop :=
  OpSelects 0x1A#5 (fun _ => .vxsw) ∧ OpSelects 0x1B#5 (fun _ => .vxrec) ∧
  OpSelects 0x1C#5 (fun _ => .vxfpga) ∧ OpSelects 0x1D#5 (fun _ => .vxhw) ∧
  ∀ (s : State),
    (∃ t x, exec .vxsw s = .next t ∧ OnlyResponseChanges s t ∧ DrivesWords t.resp x 0 ∧
      x.toNat = s.req.a.toNat % 2 ^ 15) ∧
    (∃ t x, exec .vxrec s = .next t ∧ OnlyResponseChanges s t ∧ DrivesWords t.resp x 0 ∧
      x.toNat = s.req.a.toNat / 2 ^ 15 % 2) ∧
    (∃ t x, exec .vxfpga s = .next t ∧ OnlyResponseChanges s t ∧ DrivesWords t.resp x 0 ∧
      x.toNat = s.req.a.toNat / 2 ^ 16) ∧
    (∃ t x, exec .vxhw s = .next t ∧ OnlyResponseChanges s t ∧ DrivesWords t.resp x 0 ∧
      x.toNat = s.req.b.toNat % 2 ^ 16)

/-- 45_field_extract.md R250, R255: the three extractors of the high word read disjoint bit ranges, which together are the
whole word. -/
def Obligations.VersionFieldsPartitionTheHighWord : Prop :=
  ∀ (s : State), ∃ t u v, exec .vxsw s = .next t ∧ exec .vxrec s = .next u ∧ exec .vxfpga s = .next v ∧
    (v.resp.r0 <<< 16) ||| (u.resp.r0 <<< 15) ||| t.resp.r0 = s.req.a ∧
    (v.resp.r0 <<< 16) &&& (u.resp.r0 <<< 15) = 0 ∧ (v.resp.r0 <<< 16) &&& t.resp.r0 = 0 ∧
    (u.resp.r0 <<< 15) &&& t.resp.r0 = 0

/-! ## The default checksum's message -/

/-- 43_checksum.md R191: the default checksum of four words is the CRC of the 16 bytes of the frame in wire order with bytes
14 and 15 zero: byte k is the big-endian byte k mod 4 of word k div 4. The CRC starts at 0xFFFF, and each further byte enters
in the high half of the register, which then shifts eight times. -/
def Obligations.DefaultChecksumIsTheCrcOfTheFrameBytes : Prop :=
  (∀ (cfg : Config) (h hi lo f : Word), cfg.checksumFn = .crc16 →
    checksum cfg h hi lo f = crc16 ((List.range 16).map fun k => BitVec.ofNat 8
      (if k < 14 then
        byteOf (if k < 4 then h else if k < 8 then hi else if k < 12 then lo else f) (k % 4)
      else 0))) ∧
  (crc16 []).toNat = 0xFFFF ∧
  (∀ (m : List Byte) (b : Byte),
    (crc16 (m ++ [b])).toNat = crcShift^[8] ((crc16 m).toNat ^^^ (b.toNat * 256)))
end

