-- ==== Sys2Proof/Laws/State.lean ====
section
/-! SUPPORT. The small lemmas of the state updates: one per field per update. -/

namespace Sys2Proof.Machine

variable (r : Response) (q : Request) (p : Packet) (s : State)

@[simp] theorem respond_cfg : (respond r s).cfg = s.cfg := rfl
@[simp] theorem respond_pkt : (respond r s).pkt = s.pkt := rfl
@[simp] theorem respond_resp : (respond r s).resp = r := rfl
@[simp] theorem respond_req : (respond r s).req = s.req := rfl
@[simp] theorem respond_host : (respond r s).host = s.host := rfl

@[simp] theorem sample_cfg : (sample q s).cfg = s.cfg := rfl
@[simp] theorem sample_pkt : (sample q s).pkt = s.pkt := rfl
@[simp] theorem sample_resp : (sample q s).resp = s.resp := rfl
@[simp] theorem sample_req : (sample q s).req = q := rfl
@[simp] theorem sample_host : (sample q s).host = s.host := rfl

@[simp] theorem writePacket_cfg : (writePacket p s).cfg = s.cfg := rfl
@[simp] theorem writePacket_pkt : (writePacket p s).pkt = p := rfl
@[simp] theorem writePacket_resp : (writePacket p s).resp = packetResponse p := rfl
@[simp] theorem writePacket_req : (writePacket p s).req = s.req := rfl
@[simp] theorem writePacket_host : (writePacket p s).host = s.host := rfl

@[simp] theorem raiseIllegalRequest_cfg : (raiseIllegalRequest s).cfg = s.cfg := rfl
@[simp] theorem raiseIllegalRequest_pkt : (raiseIllegalRequest s).pkt = s.pkt := rfl
@[simp] theorem raiseIllegalRequest_resp : (raiseIllegalRequest s).resp = { quiet with ill := true } := rfl
@[simp] theorem raiseIllegalRequest_req : (raiseIllegalRequest s).req = s.req := rfl
@[simp] theorem raiseIllegalRequest_host : (raiseIllegalRequest s).host = s.host := rfl

@[simp] theorem applyReset_cfg : (applyReset s).cfg = s.cfg := rfl
@[simp] theorem applyReset_pkt : (applyReset s).pkt = failedPacket := rfl
@[simp] theorem applyReset_resp : (applyReset s).resp = quiet := rfl
@[simp] theorem applyReset_req : (applyReset s).req = s.req := rfl
@[simp] theorem applyReset_host : (applyReset s).host = s.host := rfl

@[simp] theorem driveR0_cfg (x : Word) : (driveR0 x s).cfg = s.cfg := rfl
@[simp] theorem driveR0_pkt (x : Word) : (driveR0 x s).pkt = s.pkt := rfl
@[simp] theorem driveR0_req (x : Word) : (driveR0 x s).req = s.req := rfl
@[simp] theorem driveR0_host (x : Word) : (driveR0 x s).host = s.host := rfl
@[simp] theorem driveR0_resp (x : Word) : (driveR0 x s).resp = { quiet with r0 := x } := rfl

@[simp] theorem driveR0R1_cfg (x : Word) (y : Word) : (driveR0R1 x y s).cfg = s.cfg := rfl
@[simp] theorem driveR0R1_pkt (x : Word) (y : Word) : (driveR0R1 x y s).pkt = s.pkt := rfl
@[simp] theorem driveR0R1_req (x : Word) (y : Word) : (driveR0R1 x y s).req = s.req := rfl
@[simp] theorem driveR0R1_host (x : Word) (y : Word) : (driveR0R1 x y s).host = s.host := rfl
@[simp] theorem driveR0R1_resp (x : Word) (y : Word) : (driveR0R1 x y s).resp = { quiet with r0 := x, r1 := y } := rfl

@[simp] theorem driveBout4_cfg (b : Bytes4) : (driveBout4 b s).cfg = s.cfg := rfl
@[simp] theorem driveBout4_pkt (b : Bytes4) : (driveBout4 b s).pkt = s.pkt := rfl
@[simp] theorem driveBout4_req (b : Bytes4) : (driveBout4 b s).req = s.req := rfl
@[simp] theorem driveBout4_host (b : Bytes4) : (driveBout4 b s).host = s.host := rfl

@[simp] theorem driveBout8_cfg (b : Bytes8) : (driveBout8 b s).cfg = s.cfg := rfl
@[simp] theorem driveBout8_pkt (b : Bytes8) : (driveBout8 b s).pkt = s.pkt := rfl
@[simp] theorem driveBout8_req (b : Bytes8) : (driveBout8 b s).req = s.req := rfl
@[simp] theorem driveBout8_host (b : Bytes8) : (driveBout8 b s).host = s.host := rfl

@[simp] theorem driveLookup_cfg (x : Word) (known : Bool) : (driveLookup x known s).cfg = s.cfg := rfl
@[simp] theorem driveLookup_pkt (x : Word) (known : Bool) : (driveLookup x known s).pkt = s.pkt := rfl
@[simp] theorem driveLookup_req (x : Word) (known : Bool) : (driveLookup x known s).req = s.req := rfl
@[simp] theorem driveLookup_host (x : Word) (known : Bool) : (driveLookup x known s).host = s.host := rfl
@[simp] theorem driveLookup_resp (x : Word) (known : Bool) : (driveLookup x known s).resp =
    { quiet with r0 := x, valid := known, err := errorCode (recognitionKind known) } := rfl

@[simp] theorem performBuild_cfg (sel : BitVec 5) (chan : BitVec 2) (isSet : Bool) :
    (performBuild sel chan isSet s).cfg = s.cfg := rfl
@[simp] theorem performBuild_req (sel : BitVec 5) (chan : BitVec 2) (isSet : Bool) :
    (performBuild sel chan isSet s).req = s.req := rfl
@[simp] theorem performBuild_host (sel : BitVec 5) (chan : BitVec 2) (isSet : Bool) :
    (performBuild sel chan isSet s).host = s.host := rfl
@[simp] theorem performBuild_pkt (sel : BitVec 5) (chan : BitVec 2) (isSet : Bool) :
    (performBuild sel chan isSet s).pkt = build s.cfg sel chan isSet s.req.a s.req.b := rfl
@[simp] theorem performBuild_resp (sel : BitVec 5) (chan : BitVec 2) (isSet : Bool) :
    (performBuild sel chan isSet s).resp = packetResponse (build s.cfg sel chan isSet s.req.a s.req.b) := rfl

@[simp] theorem withFetchWord_cfg (nbits w : Nat) : (s.withFetchWord nbits w).cfg = s.cfg := rfl
@[simp] theorem withFetchWord_pkt (nbits w : Nat) : (s.withFetchWord nbits w).pkt = s.pkt := rfl
@[simp] theorem withFetchWord_resp (nbits w : Nat) : (s.withFetchWord nbits w).resp = s.resp := rfl
@[simp] theorem withFetchWord_req (nbits w : Nat) : (s.withFetchWord nbits w).req = s.req := rfl

end Sys2Proof.Machine
end

