-- ==== Sys2Proof/Laws/Ops.lean ====
section
/-! SUPPORT. For each shared operation, one lemma that says what it can do; proofs cite these and unfold nothing. -/

namespace Sys2Proof.Machine

/-! ## Byte order -/

@[simp] theorem encodeWord_getElem_0 (w : Word) : (encodeWord w)[0] = w.extractLsb' 24 8 := rfl
@[simp] theorem encodeWord_getElem_1 (w : Word) : (encodeWord w)[1] = w.extractLsb' 16 8 := rfl
@[simp] theorem encodeWord_getElem_2 (w : Word) : (encodeWord w)[2] = w.extractLsb' 8 8 := rfl
@[simp] theorem encodeWord_getElem_3 (w : Word) : (encodeWord w)[3] = w.extractLsb' 0 8 := rfl

theorem encodeWord_toList (w : Word) :
    (encodeWord w).toList = [w.extractLsb' 24 8, w.extractLsb' 16 8, w.extractLsb' 8 8, w.extractLsb' 0 8] := rfl

theorem extractLsb'_toNat_byte (w : Word) (k : Nat) : (w.extractLsb' k 8).toNat = w.toNat / 2 ^ k % 256 := by
  simp [BitVec.extractLsb'_toNat, Nat.shiftRight_eq_div_pow]

/-- Each byte of an encoded word is the big-endian byte of that index. -/
theorem encodeWord_toNat (w : Word) :
    (encodeWord w)[0].toNat = byteOf w 0 ∧ (encodeWord w)[1].toNat = byteOf w 1 ∧
    (encodeWord w)[2].toNat = byteOf w 2 ∧ (encodeWord w)[3].toNat = byteOf w 3 := by
  refine ⟨?_, ?_, ?_, ?_⟩ <;> exact (extractLsb'_toNat_byte w _).trans (by simp [byteOf])

/-- A decoded word is the number its four bytes stand for. -/
theorem decodeWord_toNat (b : Bytes4) : (decodeWord b).toNat = wordValue b[0] b[1] b[2] b[3] := by
  unfold decodeWord wordValue
  generalize b[0] = x0; generalize b[1] = x1; generalize b[2] = x2; generalize b[3] = x3
  simp only [BitVec.toNat_append]
  have := x0.isLt; have := x1.isLt; have := x2.isLt; have := x3.isLt
  rw [← Nat.shiftLeft_add_eq_or_of_lt (by omega), ← Nat.shiftLeft_add_eq_or_of_lt (by omega),
    ← Nat.shiftLeft_add_eq_or_of_lt (by omega)]
  simp only [Nat.shiftLeft_eq]; omega

theorem payloadSerialize_toList (high low : Word) :
    (payloadSerialize high low).toList = (encodeWord high).toList ++ (encodeWord low).toList := rfl

theorem payloadDeserialize_fst (b : Bytes8) : (payloadDeserialize b).1 = decodeWord #v[b[0], b[1], b[2], b[3]] := rfl

theorem payloadDeserialize_snd (b : Bytes8) : (payloadDeserialize b).2 = decodeWord #v[b[4], b[5], b[6], b[7]] := rfl

theorem frameSerialize_toList (p : Packet) :
    (frameSerialize p).toList = (encodeWord p.hdr).toList ++ (encodeWord p.plh).toList ++ (encodeWord p.pll).toList ++
      (encodeWord p.ftr).toList := rfl

/-! ## Outputs -/

theorem quiet_noBytes : NoBytes quiet := by unfold NoBytes; decide

theorem quiet_noFlags : NoFlags quiet := ⟨rfl, rfl, rfl⟩

theorem lookup_legal (x : Word) (known : Bool) :
    Response.Legal { quiet with r0 := x, valid := known, err := errorCode (recognitionKind known) } := by
  cases known <;> refine ⟨?_, ?_, ?_⟩ <;> simp [quiet, errorCode, recognitionKind]

theorem packetResponse_legal {p : Packet} (h : p.Legal) : (packetResponse p).Legal :=
  ⟨h.1, h.2, by simp [packetResponse, quiet]⟩

theorem packetResponse_mirrors (p : Packet) : MirrorsPacket (packetResponse p) p :=
  ⟨rfl, rfl, rfl, rfl, quiet_noBytes, rfl, rfl, rfl⟩

theorem illegal_indicated : IndicatesIllegal { quiet with ill := true } :=
  ⟨rfl, rfl, rfl, rfl, quiet_noBytes, rfl, rfl, rfl⟩

/-! ## Classification -/

theorem errorCode_toNat_le (k : ErrorKind) : (errorCode k).toNat ≤ 5 := by cases k <;> decide

theorem errorCode_eq_zero (k : ErrorKind) : errorCode k = 0 ↔ k = .none := by cases k <;> decide

theorem recognized_iff (sel : BitVec 5) : recognized sel = true ↔ sel.toNat ≤ 22 := by simp [recognized]

/-! ## The command table -/

theorem cmdPattern_of_le (cfg : Config) (sel : BitVec 5) (h : sel.toNat ≤ 22) :
    cmdPattern cfg sel = cfg.cmdId[sel.toNat] := by simp [cmdPattern, h]

theorem cmdPattern_of_gt (cfg : Config) (sel : BitVec 5) (h : 22 < sel.toNat) : cmdPattern cfg sel = cfg.cmdId[22] := by
  have : ¬ sel.toNat ≤ 22 := by omega
  simp [cmdPattern, this]

theorem findIdx?_of_nodup {l : List (BitVec 8)} (h : l.Nodup) (k : Nat) (hk : k < l.length) :
    l.findIdx? (· == l[k]) = some k := by
  rw [List.findIdx?_eq_some_iff_getElem]
  refine ⟨hk, by simp, fun j hj => ?_⟩
  simp only [beq_iff_eq]
  intro he
  have := (List.Nodup.getElem_inj_iff h (hi := by omega) (hj := hk)).1 he
  omega

/-- With an injective table the lookup of an entry gives its index. -/
theorem cmdSelector_cmdId {cfg : Config} (hc : cfg.cmdIdsDistinct = true) (k : Nat) (hk : k < 23) :
    cmdSelector cfg cfg.cmdId[k] = some (BitVec.ofNat 5 k) := by
  have hn : cfg.cmdId.toList.Nodup := by simpa [Config.cmdIdsDistinct] using hc
  have h := findIdx?_of_nodup hn k (by simpa using hk)
  simp only [Vector.getElem_toList] at h
  unfold cmdSelector
  rw [h]; rfl

/-- The lookup fails exactly where no entry has the pattern. -/
theorem cmdSelector_eq_none {cfg : Config} {p : BitVec 8} :
    cmdSelector cfg p = none ↔ ∀ k : Fin 23, cfg.cmdId[k.val] ≠ p := by
  unfold cmdSelector
  simp only [Option.map_eq_none_iff, List.findIdx?_eq_none_iff, beq_eq_false_iff_ne]
  constructor
  · intro h k
    exact h _ (by simp)
  · intro h x hx he
    obtain ⟨n, hn, rfl⟩ := List.getElem_of_mem hx
    exact h ⟨n, by simpa using hn⟩ (by simpa using he)

theorem headerCommand?_fields {sel : BitVec 5} {isSet : Bool} {chan : BitVec 2} {i : Instr}
    (h : i.headerFields? = some (sel, isSet, chan)) : sel.toNat ≤ 22 ∧ headerCommand? sel isSet chan = some i := by
  cases i <;> simp [Instr.headerFields?] at h <;> obtain ⟨rfl, rfl, rfl⟩ := h <;> exact ⟨by decide, rfl⟩

/-! ## The frame's words -/

/-- The header word, field by field from the most significant (30_encoding.md R90). -/
theorem headerWord_fields (cfg : Config) (sel : BitVec 5) (chan : BitVec 2) (isSet : Bool) :
    (headerWord cfg sel chan isSet).extractLsb' 16 16 = cfg.prefixValue ∧
    (headerWord cfg sel chan isSet).getLsbD 15 = false ∧ (headerWord cfg sel chan isSet).getLsbD 14 = isSet ∧
    (headerWord cfg sel chan isSet).extractLsb' 12 2 = 0 ∧
    (headerWord cfg sel chan isSet).extractLsb' 4 8 = cmdPattern cfg sel ∧
    (headerWord cfg sel chan isSet).extractLsb' 2 2 = 0 ∧ (headerWord cfg sel chan isSet).extractLsb' 0 2 = chan := by
  unfold headerWord
  generalize cmdPattern cfg sel = p
  generalize cfg.prefixValue = q
  refine ⟨?_, by simp, by simp, ?_, ?_, ?_, ?_⟩ <;> apply BitVec.eq_of_getLsbD_eq <;> intro i hi <;>
    interval_cases i <;> simp

theorem suffix_shift (q : Half) : (q.setWidth 32 <<< 16 : Word) = (q ++ 0#16 : BitVec 32) := by
  apply BitVec.eq_of_toNat_eq
  have := q.isLt
  rw [BitVec.toNat_append, BitVec.toNat_shiftLeft, BitVec.toNat_setWidth]
  simp [Nat.shiftLeft_eq]
  omega

/-- The footer word: the suffix, then the checksum of the words with the checksum field 0 (30_encoding.md R91). -/
theorem footerWord_fields (cfg : Config) (h hi lo : Word) :
    (footerWord cfg h hi lo).extractLsb' 16 16 = cfg.suffixValue ∧
    (footerWord cfg h hi lo).extractLsb' 0 16 = checksum cfg h hi lo (cfg.suffixValue ++ 0#16) := by
  unfold footerWord
  rw [← suffix_shift]
  generalize checksum cfg h hi lo _ = c
  generalize cfg.suffixValue = q
  constructor <;> apply BitVec.eq_of_getLsbD_eq <;> intro i hi <;> interval_cases i <;> simp

/-! ## The checksum -/

/-- The default checksum is the CRC of the message of the words, the footer's checksum field cleared. -/
theorem checksum_crc16 {cfg : Config} (hc : cfg.checksumFn = .crc16) (h hi lo f : Word) :
    checksum cfg h hi lo f = crc16 (checksumMessage h hi lo (f &&& 0xFFFF0000#32)) := by
  simp [checksum, checksumFn, hc]

/-- A further byte enters the CRC last. -/
theorem crc16_append (m : List Byte) (b : Byte) : crc16 (m ++ [b]) = crcByte (crc16 m) b := by
  simp [crc16]

/-! ## Packets -/

theorem build_legal (cfg : Config) (sel : BitVec 5) (chan : BitVec 2) (isSet : Bool) (hi lo : Word) :
    (build cfg sel chan isSet hi lo).Legal := by
  simp only [build, Packet.Legal]; cases recognized sel <;> decide

theorem parse_legal (cfg : Config) (h hi lo f : Word) : (parse cfg h hi lo f).Legal := by
  simp only [parse, Packet.Legal]; cases classify cfg h hi lo f <;> decide

theorem failedPacket_legal : failedPacket.Legal := by decide

/-! ## Instructions and steps -/

/-- All that an instruction can do: a writing one writes a legal packet and reads it out, another drives the outputs. -/
theorem exec_cases (i : Instr) (s : State) :
    (writesPacket i = false ∧ ∃ r : Response, exec i s = .next (respond r s)) ∨
    (writesPacket i = true ∧ ∃ p : Packet, p.Legal ∧ exec i s = .next (writePacket p s)) := by
  cases i
  case cmddec => simp only [exec, execCmddec]; split <;> exact .inl ⟨rfl, _, rfl⟩
  case parse => exact .inr ⟨rfl, _, parse_legal .., rfl⟩
  case fdes => exact .inr ⟨rfl, _, parse_legal .., rfl⟩
  case fail => exact .inr ⟨rfl, _, failedPacket_legal, rfl⟩
  case build => exact .inr ⟨rfl, _, build_legal .., rfl⟩
  case idle | wenc | wdec | pempty | pbool | pi32 | pu64 | ppair | phigh | plow | pasu64 | pasu32 | pasi32 | pasbool
    | pser | pdes | cmdenc | cksum | fser | extract | pktrd | vxsw | vxrec | vxfpga | vxhw | reserved1E | reserved1F
    | reservedBitsSet => exact .inl ⟨rfl, _, rfl⟩
  all_goals exact .inr ⟨rfl, _, build_legal .., rfl⟩

theorem step_nothing {s : State} (h : s.host = []) : step s = .next s := by simp [step, nextEvent, h]

theorem step_reset {s : State} {presented : Option Request} {rest : List HostEvent}
    (h : s.host = .reset presented :: rest) : step s = .next (applyReset { s with host := rest }) := by
  simp [step, nextEvent, h]

theorem step_request {s : State} {r : Request} {rest : List HostEvent} (h : s.host = .request r :: rest) :
    step s = perform r { s with host := rest } := by simp [step, nextEvent, h]

theorem perform_of_le {r : Request} {s : State} (h : s.pkt.pe.toNat ≤ 5) :
    perform r s = exec (decodeCtrl r.ctrl) (sample r s) := by simp [perform, inStateSpace, h]

theorem perform_of_gt {r : Request} {s : State} (h : 5 < s.pkt.pe.toNat) :
    perform r s = .fault .errorCodeOutsideStateSpace := by
  have : ¬ s.pkt.pe.toNat ≤ 5 := by omega
  simp [perform, inStateSpace, this]

/-- From the reset state, the word that the host is given to present is the instruction the next step runs. -/
theorem step_withFetchWord_reset (nbits w : Nat) :
    step (State.reset.withFetchWord nbits w) =
      exec (decodeCtrl (BitVec.ofNat 32 (w % 2 ^ nbits)))
        (sample { State.reset.req with ctrl := BitVec.ofNat 32 (w % 2 ^ nbits) } State.reset) :=
  rfl

end Sys2Proof.Machine
end

