-- ==== Sys2Proof/Laws/PerInstr.lean ====
section
/-! SUPPORT. Per instruction: its encoding lies in its row of spec/opcode_table.json (mask and match), and an illegal
request by its reserved bits has one of the bits of 30_encoding.md R82's mask. -/

namespace Sys2Proof.Laws.TableRow

/-- The row's mask and match. -/
def maskMatch : Instr → Word × Word
  | .idle => (0xFFFE00FF#32, 0x00000000#32)
  | .wenc => (0xFFFE00FF#32, 0x00000001#32)
  | .wdec => (0xFFFE00FF#32, 0x00000002#32)
  | .pempty => (0xFFFE00FF#32, 0x00000003#32)
  | .pbool _ => (0xFFFE00FF#32, 0x00000004#32)
  | .pi32 => (0xFFFE00FF#32, 0x00000005#32)
  | .pu64 => (0xFFFE00FF#32, 0x00000006#32)
  | .ppair => (0xFFFE00FF#32, 0x00000007#32)
  | .phigh => (0xFFFE00FF#32, 0x00000008#32)
  | .plow => (0xFFFE00FF#32, 0x00000009#32)
  | .pasu64 => (0xFFFE00FF#32, 0x0000000A#32)
  | .pasu32 => (0xFFFE00FF#32, 0x0000000B#32)
  | .pasi32 => (0xFFFE00FF#32, 0x0000000C#32)
  | .pasbool => (0xFFFE00FF#32, 0x0000000D#32)
  | .pser => (0xFFFE00FF#32, 0x0000000E#32)
  | .pdes => (0xFFFE00FF#32, 0x0000000F#32)
  | .cmdenc _ => (0xFFFE00FF#32, 0x00000010#32)
  | .cmddec => (0xFFFE00FF#32, 0x00000011#32)
  | .cksum => (0xFFFE00FF#32, 0x00000012#32)
  | .build _ _ _ => (0xFFFE00FF#32, 0x00000013#32)
  | .parse => (0xFFFE00FF#32, 0x00000014#32)
  | .fser => (0xFFFE00FF#32, 0x00000015#32)
  | .fdes => (0xFFFE00FF#32, 0x00000016#32)
  | .fail => (0xFFFE00FF#32, 0x00000017#32)
  | .extract => (0xFFFE00FF#32, 0x00000018#32)
  | .pktrd => (0xFFFE00FF#32, 0x00000019#32)
  | .vxsw => (0xFFFE00FF#32, 0x0000001A#32)
  | .vxrec => (0xFFFE00FF#32, 0x0000001B#32)
  | .vxfpga => (0xFFFE00FF#32, 0x0000001C#32)
  | .vxhw => (0xFFFE00FF#32, 0x0000001D#32)
  | .reserved1E => (0x0000001F#32, 0x0000001E#32)
  | .reserved1F => (0x0000001F#32, 0x0000001F#32)
  | .reservedBitsSet _ _ _ => (0x00000000#32, 0x00000000#32)
  | .initDevice _ _ => (0x00000FF0#32, 0x00000000#32)
  | .captureEnable _ _ => (0x00000FF0#32, 0x00000010#32)
  | .loFrequency _ _ => (0x00000FF0#32, 0x00000020#32)
  | .gain _ _ => (0x00000FF0#32, 0x00000030#32)
  | .gainMode _ _ => (0x00000FF0#32, 0x00000040#32)
  | .bandwidth _ _ => (0x00000FF0#32, 0x00000050#32)
  | .sampleRate _ _ => (0x00000FF0#32, 0x00000060#32)
  | .irFilterCfg _ _ => (0x00000FF0#32, 0x00000070#32)
  | .transmitEnable _ _ => (0x00000FF0#32, 0x00000080#32)
  | .deviceStatus _ _ => (0x00000FF0#32, 0x00000090#32)
  | .multiplexMode _ _ => (0x00000FF0#32, 0x000000A0#32)
  | .reset _ _ => (0x00000FF0#32, 0x000000B0#32)
  | .referenceSource _ _ => (0x00000FF0#32, 0x000000C0#32)
  | .irFilterUse _ _ => (0x00000FF0#32, 0x000000D0#32)
  | .agcParams _ _ => (0x00000FF0#32, 0x000000E0#32)
  | .cmdCounter _ _ => (0x00000FF0#32, 0x000000F0#32)
  | .chipsetId _ _ => (0x00000FF0#32, 0x00000100#32)
  | .firmwareUpdate _ _ => (0x00000FF0#32, 0x00000110#32)
  | .temperature _ _ => (0x00000FF0#32, 0x00000120#32)
  | .ermVersion _ _ => (0x00000FF0#32, 0x00000130#32)
  | .debugB _ _ => (0x00000FF0#32, 0x00000140#32)
  | .debugA _ _ => (0x00000FF0#32, 0x00000150#32)
  | .nop _ _ => (0x00000FF0#32, 0x00000160#32)

/-- A well-formed instruction's encoding is in its row. -/
def Statement (i : Instr) : Prop :=
  i.wellFormed = true →
    encode Config.defaults i &&& (maskMatch i).1 = (maskMatch i).2 ∧
    ((∃ rsv1 rsv0 op, i = .reservedBitsSet rsv1 rsv0 op) → encode Config.defaults i &&& 0xFFFE00E0#32 ≠ 0)

/-- A row whose encoding meets its mask, of any instruction but an illegal request by its reserved bits. -/
theorem of_encode {i : Instr} (h : encode Config.defaults i &&& (maskMatch i).1 = (maskMatch i).2)
    (hi : ∀ rsv1 rsv0 op, i ≠ .reservedBitsSet rsv1 rsv0 op) : Statement i :=
  fun _ => ⟨h, fun ⟨_, _, _, he⟩ => absurd he (hi _ _ _)⟩

/-- The header word of a header command has the row's pattern in bits 11 to 4. -/
theorem header_row : ∀ (k : Fin 23) (c : Fin 4) (isSet : Bool),
    headerWord Config.defaults (BitVec.ofNat 5 k.val) (BitVec.ofFin c) isSet &&& 0x00000FF0#32 =
      BitVec.ofNat 32 (16 * k.val) := by decide +kernel

theorem idle : Statement .idle := of_encode (by decide) (fun _ _ _ h => by cases h)

theorem wenc : Statement .wenc := of_encode (by decide) (fun _ _ _ h => by cases h)

theorem wdec : Statement .wdec := of_encode (by decide) (fun _ _ _ h => by cases h)

theorem pempty : Statement .pempty := of_encode (by decide) (fun _ _ _ h => by cases h)

theorem pbool (barg : Bool) : Statement (.pbool barg) :=
  of_encode (by cases barg <;> decide) (fun _ _ _ h => by cases h)

theorem pi32 : Statement .pi32 := of_encode (by decide) (fun _ _ _ h => by cases h)

theorem pu64 : Statement .pu64 := of_encode (by decide) (fun _ _ _ h => by cases h)

theorem ppair : Statement .ppair := of_encode (by decide) (fun _ _ _ h => by cases h)

theorem phigh : Statement .phigh := of_encode (by decide) (fun _ _ _ h => by cases h)

theorem plow : Statement .plow := of_encode (by decide) (fun _ _ _ h => by cases h)

theorem pasu64 : Statement .pasu64 := of_encode (by decide) (fun _ _ _ h => by cases h)

theorem pasu32 : Statement .pasu32 := of_encode (by decide) (fun _ _ _ h => by cases h)

theorem pasi32 : Statement .pasi32 := of_encode (by decide) (fun _ _ _ h => by cases h)

theorem pasbool : Statement .pasbool := of_encode (by decide) (fun _ _ _ h => by cases h)

theorem pser : Statement .pser := of_encode (by decide) (fun _ _ _ h => by cases h)

theorem pdes : Statement .pdes := of_encode (by decide) (fun _ _ _ h => by cases h)

theorem cmdenc (sel : BitVec 5) : Statement (.cmdenc sel) :=
  of_encode (by revert sel; decide +kernel) (fun _ _ _ h => by cases h)

theorem cmddec : Statement .cmddec := of_encode (by decide) (fun _ _ _ h => by cases h)

theorem cksum : Statement .cksum := of_encode (by decide) (fun _ _ _ h => by cases h)

theorem build (chan : BitVec 2) (isSet : Bool) (sel : BitVec 5) : Statement (.build chan isSet sel) :=
  of_encode (by revert chan isSet sel; decide +kernel) (fun _ _ _ h => by cases h)

theorem parse : Statement .parse := of_encode (by decide) (fun _ _ _ h => by cases h)

theorem fser : Statement .fser := of_encode (by decide) (fun _ _ _ h => by cases h)

theorem fdes : Statement .fdes := of_encode (by decide) (fun _ _ _ h => by cases h)

theorem fail : Statement .fail := of_encode (by decide) (fun _ _ _ h => by cases h)

theorem extract : Statement .extract := of_encode (by decide) (fun _ _ _ h => by cases h)

theorem pktrd : Statement .pktrd := of_encode (by decide) (fun _ _ _ h => by cases h)

theorem vxsw : Statement .vxsw := of_encode (by decide) (fun _ _ _ h => by cases h)

theorem vxrec : Statement .vxrec := of_encode (by decide) (fun _ _ _ h => by cases h)

theorem vxfpga : Statement .vxfpga := of_encode (by decide) (fun _ _ _ h => by cases h)

theorem vxhw : Statement .vxhw := of_encode (by decide) (fun _ _ _ h => by cases h)

theorem reserved1E : Statement .reserved1E := of_encode (by decide) (fun _ _ _ h => by cases h)

theorem reserved1F : Statement .reserved1F := of_encode (by decide) (fun _ _ _ h => by cases h)

theorem reservedBitsSet (rsv1 : BitVec 15) (rsv0 : BitVec 3) (op : BitVec 5) :
    Statement (.reservedBitsSet rsv1 rsv0 op) := by
  intro hw
  refine ⟨BitVec.and_zero, fun _ he => ?_⟩
  simp only [Instr.wellFormed, Bool.and_eq_true, Bool.or_eq_true, bne_iff_ne, decide_eq_true_eq] at hw
  have bit : ∀ k < 32, (0xFFFE00E0#32).getLsbD k = true →
      ((rsv1.setWidth 32 <<< 17) ||| (rsv0.setWidth 32 <<< 5) ||| op.setWidth 32 : Word).getLsbD k = false := by
    intro k _ hk
    have := congrArg (fun v => v.getLsbD k) he
    simpa [encode, Instr.headerFields?, encodeCtrl, hk] using this
  rcases hw.1 with h | h
  · refine h (BitVec.eq_of_getLsbD_eq fun k hk => ?_)
    have := bit (k + 17) (by omega) (by interval_cases k <;> rfl)
    interval_cases k <;> simp_all
  · refine h (BitVec.eq_of_getLsbD_eq fun k hk => ?_)
    have := bit (k + 5) (by omega) (by interval_cases k <;> rfl)
    interval_cases k <;> simp_all

theorem initDevice (isSet : Bool) (chan : BitVec 2) : Statement (.initDevice isSet chan) :=
  of_encode (header_row 0 chan.toFin isSet) (fun _ _ _ h => by cases h)

theorem captureEnable (isSet : Bool) (chan : BitVec 2) : Statement (.captureEnable isSet chan) :=
  of_encode (header_row 1 chan.toFin isSet) (fun _ _ _ h => by cases h)

theorem loFrequency (isSet : Bool) (chan : BitVec 2) : Statement (.loFrequency isSet chan) :=
  of_encode (header_row 2 chan.toFin isSet) (fun _ _ _ h => by cases h)

theorem gain (isSet : Bool) (chan : BitVec 2) : Statement (.gain isSet chan) :=
  of_encode (header_row 3 chan.toFin isSet) (fun _ _ _ h => by cases h)

theorem gainMode (isSet : Bool) (chan : BitVec 2) : Statement (.gainMode isSet chan) :=
  of_encode (header_row 4 chan.toFin isSet) (fun _ _ _ h => by cases h)

theorem bandwidth (isSet : Bool) (chan : BitVec 2) : Statement (.bandwidth isSet chan) :=
  of_encode (header_row 5 chan.toFin isSet) (fun _ _ _ h => by cases h)

theorem sampleRate (isSet : Bool) (chan : BitVec 2) : Statement (.sampleRate isSet chan) :=
  of_encode (header_row 6 chan.toFin isSet) (fun _ _ _ h => by cases h)

theorem irFilterCfg (isSet : Bool) (chan : BitVec 2) : Statement (.irFilterCfg isSet chan) :=
  of_encode (header_row 7 chan.toFin isSet) (fun _ _ _ h => by cases h)

theorem transmitEnable (isSet : Bool) (chan : BitVec 2) : Statement (.transmitEnable isSet chan) :=
  of_encode (header_row 8 chan.toFin isSet) (fun _ _ _ h => by cases h)

theorem deviceStatus (isSet : Bool) (chan : BitVec 2) : Statement (.deviceStatus isSet chan) :=
  of_encode (header_row 9 chan.toFin isSet) (fun _ _ _ h => by cases h)

theorem multiplexMode (isSet : Bool) (chan : BitVec 2) : Statement (.multiplexMode isSet chan) :=
  of_encode (header_row 10 chan.toFin isSet) (fun _ _ _ h => by cases h)

theorem reset (isSet : Bool) (chan : BitVec 2) : Statement (.reset isSet chan) :=
  of_encode (header_row 11 chan.toFin isSet) (fun _ _ _ h => by cases h)

theorem referenceSource (isSet : Bool) (chan : BitVec 2) : Statement (.referenceSource isSet chan) :=
  of_encode (header_row 12 chan.toFin isSet) (fun _ _ _ h => by cases h)

theorem irFilterUse (isSet : Bool) (chan : BitVec 2) : Statement (.irFilterUse isSet chan) :=
  of_encode (header_row 13 chan.toFin isSet) (fun _ _ _ h => by cases h)

theorem agcParams (isSet : Bool) (chan : BitVec 2) : Statement (.agcParams isSet chan) :=
  of_encode (header_row 14 chan.toFin isSet) (fun _ _ _ h => by cases h)

theorem cmdCounter (isSet : Bool) (chan : BitVec 2) : Statement (.cmdCounter isSet chan) :=
  of_encode (header_row 15 chan.toFin isSet) (fun _ _ _ h => by cases h)

theorem chipsetId (isSet : Bool) (chan : BitVec 2) : Statement (.chipsetId isSet chan) :=
  of_encode (header_row 16 chan.toFin isSet) (fun _ _ _ h => by cases h)

theorem firmwareUpdate (isSet : Bool) (chan : BitVec 2) : Statement (.firmwareUpdate isSet chan) :=
  of_encode (header_row 17 chan.toFin isSet) (fun _ _ _ h => by cases h)

theorem temperature (isSet : Bool) (chan : BitVec 2) : Statement (.temperature isSet chan) :=
  of_encode (header_row 18 chan.toFin isSet) (fun _ _ _ h => by cases h)

theorem ermVersion (isSet : Bool) (chan : BitVec 2) : Statement (.ermVersion isSet chan) :=
  of_encode (header_row 19 chan.toFin isSet) (fun _ _ _ h => by cases h)

theorem debugB (isSet : Bool) (chan : BitVec 2) : Statement (.debugB isSet chan) :=
  of_encode (header_row 20 chan.toFin isSet) (fun _ _ _ h => by cases h)

theorem debugA (isSet : Bool) (chan : BitVec 2) : Statement (.debugA isSet chan) :=
  of_encode (header_row 21 chan.toFin isSet) (fun _ _ _ h => by cases h)

theorem nop (isSet : Bool) (chan : BitVec 2) : Statement (.nop isSet chan) :=
  of_encode (header_row 22 chan.toFin isSet) (fun _ _ _ h => by cases h)

end Sys2Proof.Laws.TableRow
end

