-- ==== Sys2Proof/Tests/Slice0.lean ====
section
/-! SUPPORT. The model's own tests: ill-formed terms refused, words written out from the encodings decoded, the vectors
of 95_test_vectors.md (each named V<n> there) one step at a time, and a witness for the hypotheses of each statement. -/

namespace Sys2Proof.Tests

open Sys2Proof Sys2Proof.Machine

/-! ## Well-formedness -/

theorem test_wellFormed_refuses_no_reserved_bit : (Instr.reservedBitsSet 0 0 0).wellFormed = false := by decide

theorem test_wellFormed_refuses_reserved_op : (Instr.reservedBitsSet 1 0 0x1E).wellFormed = false := by decide

theorem test_wellFormed_boundaries :
    (Instr.reservedBitsSet 1 0 0x1D).wellFormed = true ∧ (Instr.reservedBitsSet 0 4 0).wellFormed = true ∧
    (Instr.build 3 true 31).wellFormed = true := by decide

/-- A table with one pattern twice breaks R152. -/
def repeatedPattern : Config := { Config.defaults with cmdId := Config.defaults.cmdId.set 22 0#8 }

theorem test_config_refuses_repeated_pattern :
    repeatedPattern.cmdIdsDistinct = false ∧ Config.defaults.cmdIdsDistinct = true := by decide

/-! ## Decoding: words written out bit by bit (30_encoding.md R80, R81): RSV1 BARG CHAN IS_SET CMD_SEL RSV0 OP -/

theorem test_decode_idle_and_word_codec :
    decodeCtrl 0b000000000000000_0_00_0_00000_000_00000#32 = .idle ∧
    decodeCtrl 0b000000000000000_0_00_0_00000_000_00001#32 = .wenc ∧
    decodeCtrl 0b000000000000000_0_00_0_00000_000_00010#32 = .wdec := by decide

theorem test_decode_payload_constructors :
    decodeCtrl 0b000000000000000_0_00_0_00000_000_00011#32 = .pempty ∧
    decodeCtrl 0b000000000000000_1_00_0_00000_000_00100#32 = .pbool true ∧
    decodeCtrl 0b000000000000000_0_11_1_11111_000_00100#32 = .pbool false ∧
    decodeCtrl 0b000000000000000_0_00_0_00000_000_00101#32 = .pi32 ∧
    decodeCtrl 0b000000000000000_0_00_0_00000_000_00110#32 = .pu64 ∧
    decodeCtrl 0b000000000000000_0_00_0_00000_000_00111#32 = .ppair := by decide

theorem test_decode_payload_views :
    decodeCtrl 0b000000000000000_0_00_0_00000_000_01000#32 = .phigh ∧
    decodeCtrl 0b000000000000000_0_00_0_00000_000_01001#32 = .plow ∧
    decodeCtrl 0b000000000000000_0_00_0_00000_000_01010#32 = .pasu64 ∧
    decodeCtrl 0b000000000000000_0_00_0_00000_000_01011#32 = .pasu32 ∧
    decodeCtrl 0b000000000000000_0_00_0_00000_000_01100#32 = .pasi32 ∧
    decodeCtrl 0b000000000000000_0_00_0_00000_000_01101#32 = .pasbool ∧
    decodeCtrl 0b000000000000000_0_00_0_00000_000_01110#32 = .pser ∧
    decodeCtrl 0b000000000000000_0_00_0_00000_000_01111#32 = .pdes := by decide

theorem test_decode_table_and_checksum :
    decodeCtrl 0b000000000000000_0_00_0_11001_000_10000#32 = .cmdenc 25 ∧
    decodeCtrl 0b000000000000000_0_00_0_00000_000_10001#32 = .cmddec ∧
    decodeCtrl 0b000000000000000_0_00_0_00000_000_10010#32 = .cksum := by decide

theorem test_decode_packet_framer :
    decodeCtrl 0b000000000000000_0_10_1_00110_000_10011#32 = .build 2 true 6 ∧
    decodeCtrl 0b000000000000000_0_01_0_11000_000_10011#32 = .build 1 false 24 ∧
    decodeCtrl 0b000000000000000_0_00_0_00000_000_10100#32 = .parse ∧
    decodeCtrl 0b000000000000000_0_00_0_00000_000_10101#32 = .fser ∧
    decodeCtrl 0b000000000000000_0_00_0_00000_000_10110#32 = .fdes ∧
    decodeCtrl 0b000000000000000_0_00_0_00000_000_10111#32 = .fail ∧
    decodeCtrl 0b000000000000000_0_00_0_00000_000_11000#32 = .extract ∧
    decodeCtrl 0b000000000000000_0_00_0_00000_000_11001#32 = .pktrd := by decide

theorem test_decode_field_extractor :
    decodeCtrl 0b000000000000000_0_00_0_00000_000_11010#32 = .vxsw ∧
    decodeCtrl 0b000000000000000_0_00_0_00000_000_11011#32 = .vxrec ∧
    decodeCtrl 0b000000000000000_0_00_0_00000_000_11100#32 = .vxfpga ∧
    decodeCtrl 0b000000000000000_1_11_1_11111_000_11101#32 = .vxhw := by decide

theorem test_decode_illegal :
    decodeCtrl 0b000000000000000_0_00_0_00000_000_11110#32 = .reserved1E ∧
    decodeCtrl 0b111111111111111_1_11_1_11111_111_11111#32 = .reserved1F ∧
    decodeCtrl 0b000000000000001_0_00_0_00000_000_10011#32 = .reservedBitsSet 1 0 0x13 ∧
    decodeCtrl 0b000000000000000_0_00_0_00000_100_11101#32 = .reservedBitsSet 0 4 0x1D := by decide

/-- Header words (30_encoding.md R90): PREFIX ACK SG RSVH CMD RSVL CHAN, with the patterns of R155 to R177. -/
theorem test_decode_header_0_to_11 :
    [decodeHeader Config.defaults 0b1010010101011010_0_1_00_00000000_00_00#32,
     decodeHeader Config.defaults 0b1010010101011010_0_0_00_00000001_00_01#32,
     decodeHeader Config.defaults 0b1010010101011010_0_1_00_00000010_00_10#32,
     decodeHeader Config.defaults 0b1010010101011010_0_0_00_00000011_00_11#32,
     decodeHeader Config.defaults 0b1010010101011010_0_1_00_00000100_00_00#32,
     decodeHeader Config.defaults 0b1010010101011010_0_0_00_00000101_00_01#32,
     decodeHeader Config.defaults 0b1010010101011010_0_1_00_00000110_00_10#32,
     decodeHeader Config.defaults 0b1010010101011010_0_0_00_00000111_00_11#32,
     decodeHeader Config.defaults 0b1010010101011010_0_1_00_00001000_00_00#32,
     decodeHeader Config.defaults 0b1010010101011010_0_0_00_00001001_00_01#32,
     decodeHeader Config.defaults 0b1010010101011010_0_1_00_00001010_00_10#32,
     decodeHeader Config.defaults 0b1010010101011010_0_0_00_00001011_00_11#32].map Except.toOption =
    [some (.initDevice true 0), some (.captureEnable false 1), some (.loFrequency true 2), some (.gain false 3),
     some (.gainMode true 0), some (.bandwidth false 1), some (.sampleRate true 2), some (.irFilterCfg false 3),
     some (.transmitEnable true 0), some (.deviceStatus false 1), some (.multiplexMode true 2),
     some (.reset false 3)] := by decide

theorem test_decode_header_12_to_22 :
    [decodeHeader Config.defaults 0b1010010101011010_0_1_00_00001100_00_00#32,
     decodeHeader Config.defaults 0b1010010101011010_0_0_00_00001101_00_01#32,
     decodeHeader Config.defaults 0b1010010101011010_0_1_00_00001110_00_10#32,
     decodeHeader Config.defaults 0b1010010101011010_0_0_00_00001111_00_11#32,
     decodeHeader Config.defaults 0b1010010101011010_0_1_00_00010000_00_00#32,
     decodeHeader Config.defaults 0b1010010101011010_0_0_00_00010001_00_01#32,
     decodeHeader Config.defaults 0b1010010101011010_0_1_00_00010010_00_10#32,
     decodeHeader Config.defaults 0b1010010101011010_0_0_00_00010011_00_11#32,
     decodeHeader Config.defaults 0b1010010101011010_0_1_00_00010100_00_00#32,
     decodeHeader Config.defaults 0b1010010101011010_0_0_00_00010101_00_01#32,
     decodeHeader Config.defaults 0b0000000000000000_1_1_11_00010110_11_10#32].map Except.toOption =
    [some (.referenceSource true 0), some (.irFilterUse false 1), some (.agcParams true 2), some (.cmdCounter false 3),
     some (.chipsetId true 0), some (.firmwareUpdate false 1), some (.temperature true 2), some (.ermVersion false 3),
     some (.debugB true 0), some (.debugA false 1), some (.nop true 2)] := by decide

theorem test_decode_header_rejects_by_name :
    decodeHeader Config.defaults 0b1010010101011010_0_0_00_00010111_00_00#32 = .error (.unknownCommandPattern 0x17#8) := by
  decide

theorem test_decodeTableWord :
    decodeTableWord 32 0x2613 = some (.build 0 true 6) ∧ decodeTableWord 8 0x1D = some .vxhw ∧
    decodeTableWord 33 0x1D = none := by decide

/-! ## One step -/

/-- A request of the vectors: its control word and the operands it names, every other one 0. -/
def ask (ctrl : Word) (a b c d : Word := 0) (bin : Bytes16 := zeroBytes) : Request :=
  { ctrl := ctrl, a := a, b := b, c := c, d := d, bin := bin }

/-- The reset state, or that state with another packet, with one request presented. -/
def present (r : Request) (p : Packet := failedPacket) : State := { State.reset with pkt := p, host := [.request r] }

/-- What one step shows. -/
def answer (s : State) : Option (Response × Packet) :=
  match step s with
  | .next t => some (t.resp, t.pkt)
  | .fault _ => none
  | .refused _ => none

/-- The response, for a step that must leave `PKT`. -/
def answerOnly (s : State) : Option Response :=
  match answer s with
  | some (r, p) => if p = s.pkt then some r else none
  | none => none

/-- The packet after V60 and V72. -/
def pktV60 : Packet := { hdr := 0xA55A4060, plh := 0, pll := 0x00989680, ftr := 0x5AA57BC7, pv := true, pe := 0 }
def pktV72 : Packet := { hdr := 0xA55A4162, plh := 0, pll := 1, ftr := 0x5AA54E8B, pv := false, pe := 5 }

theorem test_wenc_V1 : answerOnly (present (ask 0x00000001 0x12345678)) =
    some { quiet with bout := #v[0x12, 0x34, 0x56, 0x78, 0, 0, 0, 0, 0, 0, 0, 0, 0, 0, 0, 0] } := by decide

theorem test_wenc_V4 : answerOnly (present (ask 0x00000001 0x80000001)) =
    some { quiet with bout := #v[0x80, 0, 0, 0x01, 0, 0, 0, 0, 0, 0, 0, 0, 0, 0, 0, 0] } := by decide

theorem test_wdec_V5 :
    answerOnly (present (ask 0x00000002 (bin := #v[0xA5, 0x5A, 0x40, 0x60, 0, 0, 0, 0, 0, 0, 0, 0, 0, 0, 0, 0]))) =
    some { quiet with r0 := 0xA55A4060 } := by decide

theorem test_wdec_V6 :
    answerOnly (present (ask 0x00000002 (bin := #v[0x80, 0, 0, 0, 0xFF, 0xFF, 0xFF, 0xFF, 0xFF, 0xFF, 0xFF, 0xFF, 0xFF,
      0xFF, 0xFF, 0xFF]))) = some { quiet with r0 := 0x80000000 } := by decide

theorem test_pempty_V7 : answerOnly (present (ask 0x00000003)) = some quiet := by decide

theorem test_pbool_V8 : answerOnly (present (ask 0x00010004)) = some { quiet with r1 := 1 } := by decide

theorem test_pbool_V9 : answerOnly (present (ask 0x00000004 0xFFFFFFFF)) = some quiet := by decide

theorem test_pi32_V10 : answerOnly (present (ask 0x00000005 0xFFFFFF9C)) = some { quiet with r1 := 0xFFFFFF9C } := by
  decide

theorem test_pu64_V11 : answerOnly (present (ask 0x00000006 0x00000001 0x65A0BC00)) =
    some { quiet with r0 := 0x00000001, r1 := 0x65A0BC00 } := by decide

theorem test_ppair_V12 : answerOnly (present (ask 0x00000007 0x00038012 0x00000105)) =
    some { quiet with r0 := 0x00038012, r1 := 0x00000105 } := by decide

theorem test_phigh_V13 : answerOnly (present (ask 0x00000008 0x00000001 0x65A0BC00)) =
    some { quiet with r0 := 0x00000001 } := by decide

theorem test_plow_V14 : answerOnly (present (ask 0x00000009 0x00000001 0x65A0BC00)) =
    some { quiet with r0 := 0x65A0BC00 } := by decide

theorem test_pasu64_V15 : answerOnly (present (ask 0x0000000A 0xFFFFFFFF 0xFFFFFFFF)) =
    some { quiet with r0 := 0xFFFFFFFF, r1 := 0xFFFFFFFF } := by decide

theorem test_pasu32_V16 : answerOnly (present (ask 0x0000000B 0x00000001 0x65A0BC00)) =
    some { quiet with r0 := 0x65A0BC00 } := by decide

theorem test_pasi32_V17 : answerOnly (present (ask 0x0000000C 0 0x80000000)) = some { quiet with r0 := 0x80000000 } ∧
    (0x80000000#32).toInt = -2147483648 := by decide

theorem test_pasbool_V18 : answerOnly (present (ask 0x0000000D 0 2)) = some { quiet with r0 := 1 } := by decide

theorem test_pasbool_V19 : answerOnly (present (ask 0x0000000D 0xFFFFFFFF 0)) = some quiet := by decide

theorem test_pser_V20 : answerOnly (present (ask 0x0000000E 0x00000001 0x65A0BC00)) =
    some { quiet with bout := #v[0, 0, 0, 1, 0x65, 0xA0, 0xBC, 0, 0, 0, 0, 0, 0, 0, 0, 0] } := by decide

theorem test_pdes_V21 :
    answerOnly (present (ask 0x0000000F (bin := #v[0, 0, 0, 1, 0x65, 0xA0, 0xBC, 0, 0, 0, 0, 0, 0, 0, 0, 0]))) =
    some { quiet with r0 := 0x00000001, r1 := 0x65A0BC00 } := by decide

theorem test_pdes_V22 :
    answerOnly (present (ask 0x0000000F (bin := #v[0xFF, 0xFF, 0xFF, 0xFF, 0, 0, 0, 0, 0, 0, 0, 0, 0, 0, 0, 0]))) =
    some { quiet with r0 := 0xFFFFFFFF } := by decide

/-- V40, at the ends of its two ranges: the table's R0, VALID and ERR. -/
theorem test_cmdenc_V40 :
    answerOnly (present (ask 0x00000010)) = some { quiet with r0 := 0x00, valid := true } ∧
    answerOnly (present (ask 0x00000110)) = some { quiet with r0 := 0x01, valid := true } ∧
    answerOnly (present (ask 0x00001610)) = some { quiet with r0 := 0x16, valid := true } ∧
    answerOnly (present (ask 0x00001710)) = some { quiet with r0 := 0x16, err := 5 } ∧
    answerOnly (present (ask 0x00001F10)) = some { quiet with r0 := 0x16, err := 5 } := by decide

theorem test_cmddec_V41 :
    answerOnly (present (ask 0x00000011 0xA55A4060)) = some { quiet with r0 := 6, valid := true } ∧
    answerOnly (present (ask 0x00000011 0x00000160)) = some { quiet with r0 := 22, valid := true } ∧
    answerOnly (present (ask 0x00000011 0xFFFFF00F)) = some { quiet with valid := true } ∧
    answerOnly (present (ask 0x00000011 0xA55A0130)) = some { quiet with r0 := 19, valid := true } := by decide

theorem test_cmddec_V41_not_found :
    answerOnly (present (ask 0x00000011 0x00000170)) = some { quiet with err := 5 } ∧
    answerOnly (present (ask 0x00000011 0x00000FF0)) = some { quiet with err := 5 } := by decide

theorem test_cksum_V51_V52_V53 :
    answerOnly (present (ask 0x00000012 0xA55A4060 0 0x00989680 0x5AA5FFFF)) = some { quiet with r0 := 0x00007BC7 } ∧
    answerOnly (present (ask 0x00000012 0xA55A4060 0 0x00989680 0x12340000)) = some { quiet with r0 := 0x0000DF91 } ∧
    answerOnly (present (ask 0x00000012)) = some { quiet with r0 := 0x00006A0A } := by decide +kernel

theorem test_cksum_V54_V55_V56 :
    answerOnly (present (ask 0x00000012 0xFFFFFFFF 0xFFFFFFFF 0xFFFFFFFF 0xFFFFFFFF)) =
      some { quiet with r0 := 0x00007744 } ∧
    answerOnly (present (ask 0x00000012 0xA55A0130 0x00038012 0x00000105 0x5AA50000)) =
      some { quiet with r0 := 0x00006667 } ∧
    answerOnly (present (ask 0x00000012 0xA55A4060 0 0x00999680 0x5AA57BC7)) = some { quiet with r0 := 0x0000C3A6 } := by
  decide +kernel

/-- The CRC's message for V51, written out in wire order with bytes 14 and 15 zero (43_checksum.md R191). -/
theorem test_checksum_message_V51 :
    checksumMessage 0xA55A4060 0 0x00989680 (0x5AA5FFFF#32 &&& 0xFFFF0000#32) =
      [0xA5, 0x5A, 0x40, 0x60, 0, 0, 0, 0, 0, 0x98, 0x96, 0x80, 0x5A, 0xA5, 0, 0] := by decide

/-- What a step that writes `p` shows. -/
def wrote (p : Packet) : Option (Response × Packet) :=
  some ({ quiet with r0 := p.hdr, r1 := p.plh, r2 := p.pll, r3 := p.ftr, valid := p.pv, err := p.pe }, p)

theorem test_build_V60_V69_V71 :
    answer (present (ask 0x00002613 0 10000000)) = wrote pktV60 ∧
    answer (present (ask 0x0000F513 0xFFFFFFFF 0xFFFFFFFF)) = wrote
      { hdr := 0xA55A4153, plh := 0xFFFFFFFF, pll := 0xFFFFFFFF, ftr := 0x5AA5C08B, pv := true, pe := 0 } ∧
    answer (present (ask 0x00011613)) = wrote
      { hdr := 0xA55A0160, plh := 0, pll := 0, ftr := 0x5AA545A3, pv := true, pe := 0 } := by decide +kernel

theorem test_build_unrecognized_V72_V73_V74 :
    answer (present (ask 0x0000B913 0 1)) = wrote pktV72 ∧
    answer (present (ask 0x00001F13)) = wrote
      { hdr := 0xA55A0160, plh := 0, pll := 0, ftr := 0x5AA545A3, pv := false, pe := 5 } ∧
    answer (present (ask 0x00001713)) = wrote
      { hdr := 0xA55A0160, plh := 0, pll := 0, ftr := 0x5AA545A3, pv := false, pe := 5 } := by decide +kernel

/-- What a header command shows, on the reset state with the payload (a, b) on its ports. -/
def framed (i : Instr) (a b : Word) : Option Packet :=
  match exec i { State.reset with req := ask 0 a b } with
  | .next t => some t.pkt
  | .fault _ => none
  | .refused _ => none

/-- V61 to V70, as header commands. -/
theorem test_header_commands_V61_to_V65 :
    framed (.sampleRate false 1) 0 0 = some (Packet.mk 0xA55A0061 0 0 0x5AA57BA1 true 0) ∧
    framed (.loFrequency true 0) 0 0x8F0D1800 = some (Packet.mk 0xA55A4020 0 0x8F0D1800 0x5AA59622 true 0) ∧
    framed (.loFrequency true 0) 0 0 = some (Packet.mk 0xA55A4020 0 0 0x5AA54FAD true 0) ∧
    framed (.loFrequency true 0) 1 0x65A0BC00 = some (Packet.mk 0xA55A4020 1 0x65A0BC00 0x5AA554C8 true 0) ∧
    framed (.temperature false 0) 0 0 = some (Packet.mk 0xA55A0120 0 0 0x5AA51F73 true 0) := by decide +kernel

theorem test_header_commands_V66_to_V70 :
    framed (.ermVersion false 0) 0 0 = some (Packet.mk 0xA55A0130 0 0 0x5AA509C7 true 0) ∧
    framed (.initDevice true 0) 0 1 = some (Packet.mk 0xA55A4000 0 1 0x5AA5C894 true 0) ∧
    framed (.reset true 0) 0 1 = some (Packet.mk 0xA55A40B0 0 1 0x5AA546E8 true 0) ∧
    framed (.debugA true 3) 0xFFFFFFFF 0xFFFFFFFF =
      some (Packet.mk 0xA55A4153 0xFFFFFFFF 0xFFFFFFFF 0x5AA5C08B true 0) ∧
    framed (.nop false 0) 0 0 = some (Packet.mk 0xA55A0160 0 0 0x5AA545A3 true 0) := by decide +kernel

/-- The header of each other command (42_command_type.md R155 to R177), a get on channel 0. -/
theorem test_header_commands_of_no_vector :
    [Instr.captureEnable false 0, .gain false 0, .gainMode false 0, .bandwidth false 0, .irFilterCfg false 0,
     .transmitEnable false 0, .deviceStatus false 0, .multiplexMode false 0, .referenceSource false 0,
     .irFilterUse false 0, .agcParams false 0, .cmdCounter false 0, .chipsetId false 0, .firmwareUpdate false 0,
     .debugB false 0].map (fun i => (framed i 0 0).map Packet.hdr) =
    [some 0xA55A0010, some 0xA55A0030, some 0xA55A0040, some 0xA55A0050, some 0xA55A0070, some 0xA55A0080,
     some 0xA55A0090, some 0xA55A00A0, some 0xA55A00C0, some 0xA55A00D0, some 0xA55A00E0, some 0xA55A00F0,
     some 0xA55A0100, some 0xA55A0110, some 0xA55A0140] := by decide +kernel

/-- The classification that PARSE answers and writes, where it keeps the four words. -/
def parsed (a b c d : Word) : Option (Bool × BitVec 3) :=
  match answer (present (ask 0x00000014 a b c d)) with
  | some (r, p) =>
    if (r.r0, r.r1, r.r2, r.r3) = (a, b, c, d) ∧ (p.hdr, p.plh, p.pll, p.ftr, p.pv, p.pe) = (a, b, c, d, r.valid, r.err)
    then some (r.valid, r.err) else none
  | none => none

theorem test_parse_V80_to_V87 :
    parsed 0xA55A4060 0 0x00989680 0x5AA57BC7 = some (true, 0) ∧ parsed 0xA55A4060 0 0x00989680 0x5AA57BC6 = some (false, 1) ∧
    parsed 0xA55B4060 0 0x00989680 0x5AA5D53B = some (false, 2) ∧ parsed 0xA55A4060 0 0x00989680 0x5AA44CF7 = some (false, 2) ∧
    parsed 0xA55AC060 0 0x00989680 0x5AA52CB9 = some (false, 3) ∧ parsed 0xA55B4060 0 0x00989680 0x5AA57BC7 = some (false, 1) ∧
    parsed 0x00004060 0 0x00989680 0x000058B7 = some (false, 2) ∧
    parsed 0xA55AC060 0 0x00989680 0x00006745 = some (false, 2) := by decide +kernel

theorem test_parse_V88_to_V94 :
    parsed 0 0 0 0 = some (false, 1) ∧ parsed 0x5AA57BC7 0 0x00989680 0xA55A4060 = some (false, 1) ∧
    parsed 0xA55A7FFF 0 0x00989680 0x5AA5D9D4 = some (true, 0) ∧
    parsed 0xA55A0130 0x00038012 0x00000105 0x5AA56667 = some (true, 0) ∧
    parsed 0xA55A0120 0 0x0000A21C 0x5AA5FA6A = some (true, 0) ∧ parsed 0xA55A0060 0 0x000F423F 0x5AA53C6C = some (true, 0) ∧
    parsed 0xA55AC020 0x00000001 0x65A0BC00 0x5AA503B6 = some (false, 3) := by decide +kernel

/-- The bytes of V80, V90 and V94. -/
def binV80 : Bytes16 := #v[0xA5, 0x5A, 0x40, 0x60, 0, 0, 0, 0, 0, 0x98, 0x96, 0x80, 0x5A, 0xA5, 0x7B, 0xC7]
def binV90 : Bytes16 := #v[0xA5, 0x5A, 0x7F, 0xFF, 0, 0, 0, 0, 0, 0x98, 0x96, 0x80, 0x5A, 0xA5, 0xD9, 0xD4]
def binV94 : Bytes16 := #v[0xA5, 0x5A, 0xC0, 0x20, 0, 0, 0, 0x01, 0x65, 0xA0, 0xBC, 0, 0x5A, 0xA5, 0x03, 0xB6]

theorem test_fdes_V80_V90 :
    answer (present (ask 0x00000016 (bin := binV80))) = wrote pktV60 ∧
    answer (present (ask 0x00000016 (bin := binV90))) = wrote
      { hdr := 0xA55A7FFF, plh := 0, pll := 0x00989680, ftr := 0x5AA5D9D4, pv := true, pe := 0 } := by decide +kernel

theorem test_fdes_V94 : answer (present (ask 0x00000016 (bin := binV94))) = wrote
    { hdr := 0xA55AC020, plh := 1, pll := 0x65A0BC00, ftr := 0x5AA503B6, pv := false, pe := 3 } := by decide +kernel

theorem test_fser_V95 : answerOnly (present (ask 0x00000015) pktV60) =
    some { quiet with bout := binV80, valid := true } := by decide

theorem test_fser_V96 : answerOnly (present (ask 0x00000015) pktV72) =
    some { quiet with
      bout := #v[0xA5, 0x5A, 0x41, 0x62, 0, 0, 0, 0, 0, 0, 0, 1, 0x5A, 0xA5, 0x4E, 0x8B], err := 5 } := by decide

theorem test_fail_V98 : answer (present (ask 0x00000017) pktV60) = wrote
    { hdr := 0, plh := 0, pll := 0, ftr := 0, pv := false, pe := 4 } := by decide

theorem test_extract_V99 : answerOnly (present (ask 0x00000018) pktV60) =
    some { quiet with r1 := 0x00989680, valid := true } := by decide

theorem test_extract_V100 :
    answerOnly (present (ask 0x00000018)
      { hdr := 0xA55AC020, plh := 1, pll := 0x65A0BC00, ftr := 0x5AA503B6, pv := false, pe := 3 }) =
    some { quiet with r0 := 0x00000001, r1 := 0x65A0BC00, err := 3 } := by decide

theorem test_pktrd_V101 : answerOnly (present (ask 0x00000019)) = some { quiet with err := 4 } := by decide

theorem test_pktrd_V102 : answerOnly (present (ask 0x00000019) pktV72) =
    some { quiet with r0 := 0xA55A4162, r2 := 1, r3 := 0x5AA54E8B, err := 5 } := by decide

theorem test_idle_V104 : answerOnly (present (ask 0x0000C000 0xFFFFFFFF) pktV60) = some quiet := by decide

theorem test_vxsw_V105_V106 :
    answerOnly (present (ask 0x0000001A 0x00038012)) = some { quiet with r0 := 0x00000012 } ∧
    answerOnly (present (ask 0x0000001A 0xFFFFFFFF)) = some { quiet with r0 := 0x00007FFF } := by decide

theorem test_vxrec_V107_V108 :
    answerOnly (present (ask 0x0000001B 0x00038012)) = some { quiet with r0 := 1 } ∧
    answerOnly (present (ask 0x0000001B 0x00007FFF)) = some quiet := by decide

theorem test_vxfpga_V109_V110 :
    answerOnly (present (ask 0x0000001C 0x00038012)) = some { quiet with r0 := 3 } ∧
    answerOnly (present (ask 0x0000001C 0x0000FFFF)) = some quiet := by decide

theorem test_vxhw_V111 : answerOnly (present (ask 0x0000001D 0 0xFFFF0105)) = some { quiet with r0 := 0x00000105 } := by
  decide

theorem test_illegal_V120_V121 :
    answerOnly (present (ask 0x0000001E) pktV60) = some { quiet with ill := true } ∧
    answerOnly (present (ask 0x0000001F) pktV60) = some { quiet with ill := true } := by decide

theorem test_illegal_V122_to_V125 :
    answerOnly (present (ask 0x00000020) pktV60) = some { quiet with ill := true } ∧
    answerOnly (present (ask 0x00000093) pktV60) = some { quiet with ill := true } ∧
    answerOnly (present (ask 0x00020013) pktV60) = some { quiet with ill := true } ∧
    answerOnly (present (ask 0x80000000) pktV60) = some { quiet with ill := true } := by decide

theorem test_reset_V130 : answer { State.reset with pkt := pktV60, host := [.reset none] } =
    some (quiet, failedPacket) := by decide

theorem test_reset_V131 :
    answer { State.reset with pkt := pktV60, host := [.reset (some (ask 0x00000016 (bin := binV80)))] } =
    some (quiet, failedPacket) := by decide

theorem test_withFetchWord :
    (answer (State.reset.withFetchWord 32 0x2613)).map (fun x => x.2.hdr) = some 0xA55A4060 ∧
    (answer (State.reset.withFetchWord 8 0x1E)).map (fun x => x.1.ill) = some true := by decide +kernel

/-- The written programs (30_encoding.md R88, R89): the control words of TX, RX and VERSION in P1 and P4. -/
theorem test_written_requests :
    (txRequests 6 0 true 0 10000000).map Request.ctrl = [0x00002613, 0x00000015] ∧
    (rxRequests binV80).map Request.ctrl = [0x00000016, 0x00000018] ∧
    (versionRequests 0x00038012 0x00000105).map (fun r => (r.ctrl, r.a, r.b)) =
      [(0x1A, 0x00038012, 0), (0x1B, 0x00038012, 0), (0x1C, 0x00038012, 0), (0x1D, 0, 0x00000105)] := by decide

/-- 70_reset_and_hazards.md R306: the exchange of P1 keeps single flight; a FAIL between FDES and EXTRACT does not. -/
theorem test_singleFlight :
    singleFlight .free [(.build 0 true 6, packetResponse pktV60), (.fser, { quiet with valid := true }),
      (.fdes, packetResponse pktV60), (.extract, quiet)] = true ∧
    singleFlight .free [(.fdes, packetResponse pktV60), (.fail, quiet)] = false := by decide

/-! ## Witnesses: a concrete case that meets the hypotheses of each statement that has any -/

theorem test_witness_DecodeInvertsEncode :
    Config.defaults.cmdIdsDistinct = true ∧ (Instr.reservedBitsSet 0x4000 7 0x1D).wellFormed = true ∧
    (Instr.build 3 true 31).wellFormed = true ∧ (Instr.nop true 3).wellFormed = true := by decide

theorem test_witness_IllegalExactlyByReservedOpOrBits :
    isIllegal (decodeCtrl 0x0000001E) = true ∧ isIllegal (decodeCtrl 0x0000001F) = true ∧
    isIllegal (decodeCtrl 0x00020000) = true ∧ isIllegal (decodeCtrl 0x00000020) = true ∧
    isIllegal (decodeCtrl 0x0001FF1D) = false ∧ LegalCtrl 0x0001FF1D := by decide

/-- For each `OP`, two different legal requests that agree on what it reads: they differ in an ignored `CTRL` bit or in
an operand that no operation but CKSUM and PARSE reads. -/
theorem test_witness_UnreadInputsAreIgnored :
    failedPacket.pe.toNat ≤ 5 ∧ ask 0x00000003 ≠ ask 0x0001FF03 7 ∧
    (([0x03, 0x0001FF03, 0x01, 0x0001FF01, 0x02, 0x00010004, 0x0001FF04, 0x0F, 0x00001F10, 0x0001FF10, 0x12,
      0x0001FF12, 0x0000FF13, 0x0001FF13, 0x16, 0x1D] : List Word).all
      fun w => decide (LegalCtrl w)) = true ∧
    inputsAgree 0x03 (ask 0x00000003) (ask 0x0001FF03 7) ∧
    inputsAgree 0x01 (ask 0x00000001 9) (ask 0x0001FF01 9 1) ∧
    inputsAgree 0x02 (ask 0x00000002 (bin := binV80)) (ask 0x00000002 (bin := binV80.set 4 1)) ∧
    inputsAgree 0x04 (ask 0x00010004) (ask 0x0001FF04 7) ∧
    inputsAgree 0x0F (ask 0x0000000F (bin := binV80)) (ask 0x0000000F (bin := binV80.set 8 1)) ∧
    inputsAgree 0x10 (ask 0x00001F10) (ask 0x0001FF10) ∧
    inputsAgree 0x12 (ask 0x00000012 1 2 3 4) (ask 0x0001FF12 1 2 3 4) ∧
    inputsAgree 0x13 (ask 0x0000FF13 1 2) (ask 0x0001FF13 1 2 3 4) ∧
    inputsAgree 0x16 (ask 0x00000016 (bin := binV80)) (ask 0x00000016 1 (bin := binV80)) ∧
    inputsAgree 0x1D (ask 0x0000001D 1 2) (ask 0x0000001D 3 2) := by
  simp only [inputsAgree]; decide

theorem test_witness_BuildRequestRunsItsHeaderCommand :
    headerCommand? 0 false 0 = some (.initDevice false 0) ∧ headerCommand? 22 true 3 = some (.nop true 3) ∧
    (present (ask (encodeCtrl (.nop true 3)))).pkt.pe.toNat ≤ 5 ∧
    (present (ask (encodeCtrl (.nop true 3)))).host = .request (ask 0x0000F613) :: [] := by decide

theorem test_witness_StepRunsThePresentedRequest :
    (present (ask 0x00002613) pktV72).pkt.pe.toNat ≤ 5 ∧
    (present (ask 0x00002613) pktV72).host = .request (ask 0x00002613) :: [] := by decide

/-- Both sides of the stop: code 5 goes on, codes 6 and 7 stop. -/
theorem test_witness_StepStopsOnlyOutsideTheStateSpace :
    step (present (ask 0) { failedPacket with pe := 6 }) = .fault .errorCodeOutsideStateSpace ∧
    step (present (ask 0) { failedPacket with pe := 7 }) = .fault .errorCodeOutsideStateSpace ∧
    (answer (present (ask 0) { failedPacket with pe := 5 })).isSome = true := ⟨rfl, rfl, by decide⟩

theorem test_witness_StepKeepsLegalPacketAndResponse :
    (present (ask 0x00000016 (bin := binV80)) pktV72).Inv ∧
    (answer (present (ask 0x00000016 (bin := binV80)) pktV72)).isSome = true := by decide +kernel

theorem test_witness_ResetEvent :
    ({ State.reset with host := [.reset none] } : State).host = .reset none :: [] ∧
    ({ State.reset with host := [.reset (some (ask 0x16))] } : State).host = .reset (some (ask 0x16)) :: [] := by decide

theorem test_witness_ConfigurationNeverChanges :
    step { State.reset with host := [.reset none] } = .next (applyReset State.reset) := rfl

theorem test_witness_OnlyWritingOperationsChangePacket :
    writesPacket .idle = false ∧ writesPacket (.reservedBitsSet 1 0 0x13) = false ∧ writesPacket .fdes = true ∧
    writesPacket (.nop true 3) = true := by decide

/-- `PKT` changes by reset and by each of the four writing operations. -/
theorem test_witness_PacketChangesOnlyByWritersAndReset :
    (answer { State.reset with pkt := pktV60, host := [.reset none] }).map (fun x => decide (x.2 = pktV60)) = some false ∧
    (answer (present (ask 0x00000013) pktV60)).map (fun x => decide (x.2 = pktV60)) = some false ∧
    (answer (present (ask 0x00000014) pktV60)).map (fun x => decide (x.2 = pktV60)) = some false ∧
    (answer (present (ask 0x00000016) pktV60)).map (fun x => decide (x.2 = pktV60)) = some false ∧
    (answer (present (ask 0x00000017) pktV60)).map (fun x => decide (x.2 = pktV60)) = some false := by
  decide +kernel

theorem test_witness_UndrivenOutputsAreZero :
    drivenWords .wenc = 0 ∧ drivenWords .wdec = 1 ∧ drivenWords .extract = 2 ∧ drivenWords .pktrd = 4 ∧
    drivenBytes .idle = 0 ∧ drivenBytes .wenc = 4 ∧ drivenBytes .pser = 8 ∧ drivenBytes .fser = 16 ∧
    drivesClassification .cksum = false ∧ isIllegal .reserved1F = true := by decide

theorem test_witness_ResponseDependsOnRequestAndPacketAlone :
    State.reset.cfg = { State.reset with resp := packetResponse pktV60, req := ask 7 }.cfg ∧
    (present (ask 0x15) pktV60).pkt.pe.toNat ≤ 5 ∧
    (present (ask 0x15) pktV60).host = .request (ask 0x15) :: [] ∧
    present (ask 0x15) pktV60 ≠ { present (ask 0x15) pktV60 with resp := packetResponse pktV60, req := ask 7 } := by
  decide

theorem test_witness_RepeatedRequestIsIdempotent :
    ({ State.reset with pkt := pktV72, host := [.request (ask 0x13), .request (ask 0x13)] } : State).pkt.Legal ∧
    ({ State.reset with pkt := pktV72, host := [.request (ask 0x13), .request (ask 0x13)] } : State).host =
      .request (ask 0x13) :: .request (ask 0x13) :: [] := by decide

/-- Two different states with the same constants, `PKT` and host events. -/
theorem test_witness_ObservationHasNoHiddenState :
    (present (ask 0x15)).cfg = { present (ask 0x15) with req := ask 7 }.cfg ∧
    (present (ask 0x15)).pkt = { present (ask 0x15) with req := ask 7 }.pkt ∧
    (present (ask 0x15)).host = { present (ask 0x15) with req := ask 7 }.host ∧
    present (ask 0x15) ≠ { present (ask 0x15) with req := ask 7 } := by decide

theorem test_witness_RunEndsAfterItsLastEvent :
    ({ State.reset with host := [.request (ask 0x13), .reset none, .request (ask 0x1E)] } : State).Inv := by decide

theorem test_witness_PacketPersistsUntilTheNextWriter :
    pktV60.pe.toNat ≤ 5 ∧
    ({ State.reset with pkt := pktV60, host := [.request (ask 0x15), .request (ask 0x1E), .reset none] } : State).host =
      [ask 0x15, ask 0x1E].map .request ++ [.reset none] ∧
    (∀ r ∈ [ask 0x15, ask 0x1E], writesPacket (decodeCtrl r.ctrl) = false) := by decide

/-- Each waiting phase, with a request that keeps it and one that ends it. -/
theorem test_witness_SingleFlightKeepsTheWaitingPacket :
    exchangeStep .built .wenc quiet = some .built ∧ exchangeStep .built .fser quiet = some .framed ∧
    exchangeStep .received .idle quiet = some .received ∧ exchangeStep .received .extract quiet = some .free ∧
    exec .idle State.reset = .next (respond quiet State.reset) :=
  ⟨by decide, by decide, by decide, by decide, rfl⟩

theorem test_witness_IllegalInstructionsIndicateIll :
    [Instr.reserved1E, .reserved1F, .reservedBitsSet 0x7FFF 7 0x1D].map isIllegal = [true, true, true] := by decide

theorem test_witness_IllegalRequestsArePerformedAsNothing :
    (present (ask 0x00000020) pktV60).pkt.pe.toNat ≤ 5 ∧
    (present (ask 0x00000020) pktV60).host = .request (ask 0x00000020) :: [] ∧ ¬ LegalCtrl 0x00000020 ∧
    ¬ LegalCtrl 0x0000001E ∧ ¬ LegalCtrl 0x00020000 := by decide

/-- Both ends of the two ranges of selectors, which no selector is in together. -/
theorem test_witness_CommandEncodeResult :
    (0#5).toNat ≤ 22 ∧ (22#5).toNat ≤ 22 ∧ 22 < (23#5).toNat ∧ 22 < (31#5).toNat := by decide

/-- The first entry, the last one, and a pattern that no entry has. -/
theorem test_witness_CommandDecodeResult :
    State.reset.cfg.cmdIdsDistinct = true ∧
    State.reset.cfg.cmdId[0].toNat = (0xFFFFF00F#32).toNat / 16 % 256 ∧
    State.reset.cfg.cmdId[22].toNat = (0x00000160#32).toNat / 16 % 256 ∧
    (∀ k : Fin 23, State.reset.cfg.cmdId[k.val].toNat ≠ (0x00000170#32).toNat / 16 % 256) := by decide

theorem test_witness_CommandTableIsConsistent :
    Config.defaults.cmdIdsDistinct = true ∧ (22#5).toNat ≤ 22 ∧ 23 ≤ (23#5).toNat ∧ 23 ≤ (31#5).toNat := by decide

theorem test_witness_HeaderCommands :
    State.reset.cfg.prefixValue = 0xA55A#16 ∧ State.reset.cfg.cmdId = Config.defaults.cmdId := by decide

theorem test_witness_CommandDecodeOfBuiltHeader :
    State.reset.cfg.cmdIdsDistinct = true ∧ (0#5).toNat ≤ 22 ∧ (22#5).toNat ≤ 22 := by decide

theorem test_witness_DefaultChecksumDetectsSingleFlips :
    Config.defaults.checksumFn = .crc16 ∧
    ({ Config.defaults with prefixValue := 0, suffixValue := 0xFFFF } : Config).checksumFn = .crc16 := by decide

theorem test_witness_DefaultChecksumIsTheCrcOfTheFrameBytes : State.reset.cfg.checksumFn = .crc16 := by decide

theorem test_witness_BuildResult : (22#5).toNat ≤ 22 ∧ 22 < (23#5).toNat := by decide

theorem test_witness_ParseReadsNoOtherHeaderField :
    (0xA55A7FFF#32 : Word) = Config.defaults.prefixValue ++ 0#1 ++ 0x7FFF#15 ∧
    (0xA55AFFFF#32 : Word) = Config.defaults.prefixValue ++ 1#1 ++ 0x7FFF#15 ∧
    (0x5AA5D9D4#32 : Word) = Config.defaults.suffixValue ++ 0xD9D4#16 := by decide

theorem test_witness_FrameDeserializeResult :
    (0xA55A4060#32 : Word).toNat = wordValue binV80[0] binV80[1] binV80[2] binV80[3] ∧
    (0x00000000#32 : Word).toNat = wordValue binV80[4] binV80[5] binV80[6] binV80[7] ∧
    (0x00989680#32 : Word).toNat = wordValue binV80[8] binV80[9] binV80[10] binV80[11] ∧
    (0x5AA57BC7#32 : Word).toNat = wordValue binV80[12] binV80[13] binV80[14] binV80[15] := by decide

theorem test_witness_OwnFramesParseValid : (0#5).toNat ≤ 22 ∧ (22#5).toNat ≤ 22 := by decide

/-- The frame of V80 is found valid, and the default checksum detects each single flip at its words. -/
theorem test_witness_SingleBitCorruptionIsCaught :
    (∃ t, exec .fdes { State.reset with req := ask 0x16 (bin := binV80) } = .next t ∧ t.pkt.pv = true ∧
      t.pkt = pktV60) ∧
    DetectsSingleFlipsAt State.reset.cfg pktV60.hdr pktV60.plh pktV60.pll pktV60.ftr := by
  constructor
  · exact ⟨_, rfl, by decide +kernel, by decide +kernel⟩
  · unfold DetectsSingleFlipsAt; decide +kernel

theorem test_witness_UnrecognizedBuildFramesAsNop : 23 ≤ (23#5).toNat ∧ 23 ≤ (31#5).toNat := by decide

end Sys2Proof.Tests
end

/-! Proofs of the family 10_state.md: the shapes of a response, the inversion of a step, what a control word that writes
`PKT` looks like, and the family's obligations. -/

namespace Sys2Proof.Machine

/-! ## The shapes of a response -/

/-- Every byte of `BOUT` from index `n` on is 0 (20_memory.md R66). -/
def ZeroBytesFrom (n : Nat) (b : Bytes16) : Prop := ∀ k : Fin 16, n ≤ k.val → b[k.val] = 0

theorem zeroBytesFrom_quiet (n : Nat) : ZeroBytesFrom n quiet.bout := fun k _ => quiet_noBytes k

theorem zeroBytesFrom_sixteen (b : Bytes16) : ZeroBytesFrom 16 b := fun k h => absurd k.isLt (by omega)

theorem zeroBytesFrom_four (b0 b1 b2 b3 : Byte) :
    ZeroBytesFrom 4 #v[b0, b1, b2, b3, 0, 0, 0, 0, 0, 0, 0, 0, 0, 0, 0, 0] := by
  rintro ⟨k, hk⟩ (h : 4 ≤ k)
  interval_cases k <;> rfl

theorem zeroBytesFrom_eight (b0 b1 b2 b3 b4 b5 b6 b7 : Byte) :
    ZeroBytesFrom 8 #v[b0, b1, b2, b3, b4, b5, b6, b7, 0, 0, 0, 0, 0, 0, 0, 0] := by
  rintro ⟨k, hk⟩ (h : 8 ≤ k)
  interval_cases k <;> rfl

/-- The responses that exist, over the packet `p` that `PKT` holds after the step: `Drives words bytes classified ill p r`
where `r` drives that many of `R0` to `R3` and bytes of `BOUT`, and `VALID` and `ERR`, or `ILL`, where marked. -/
inductive Drives : Nat → Nat → Bool → Bool → Packet → Response → Prop
  | nothing (p : Packet) : Drives 0 0 false false p quiet
  | illegal (p : Packet) : Drives 0 0 false true p { quiet with ill := true }
  | word (p : Packet) (x : Word) : Drives 1 0 false false p { quiet with r0 := x }
  | pair (p : Packet) (x y : Word) : Drives 2 0 false false p { quiet with r0 := x, r1 := y }
  | bytes4 (p : Packet) (b0 b1 b2 b3 : Byte) :
      Drives 0 4 false false p { quiet with bout := #v[b0, b1, b2, b3, 0, 0, 0, 0, 0, 0, 0, 0, 0, 0, 0, 0] }
  | bytes8 (p : Packet) (b0 b1 b2 b3 b4 b5 b6 b7 : Byte) :
      Drives 0 8 false false p { quiet with bout := #v[b0, b1, b2, b3, b4, b5, b6, b7, 0, 0, 0, 0, 0, 0, 0, 0] }
  | lookup (p : Packet) (x : Word) (known : Bool) :
      Drives 1 0 true false p { quiet with r0 := x, valid := known, err := errorCode (recognitionKind known) }
  | payload (p : Packet) :
      Drives 2 0 true false p { quiet with r0 := p.plh, r1 := p.pll, valid := p.pv, err := p.pe }
  | frame (p : Packet) :
      Drives 0 16 true false p { quiet with bout := frameSerialize p, valid := p.pv, err := p.pe }
  | packet (p : Packet) : Drives 4 0 true false p (packetResponse p)

/-- Every instruction answers a next state, with a response of one of the shapes, as the tables of 30_encoding.md R81 and
20_memory.md R66 say. -/
theorem exec_drives (i : Instr) (s : State) : ∃ t, exec i s = .next t ∧
    Drives (drivenWords i) (drivenBytes i) (drivesClassification i) (isIllegal i) t.pkt t.resp := by
  cases i
  case idle => exact ⟨_, rfl, .nothing _⟩
  case reserved1E | reserved1F | reservedBitsSet => exact ⟨_, rfl, .illegal _⟩
  case wdec | phigh | plow | pasu32 | pasi32 | pasbool | cksum | vxsw | vxrec | vxfpga | vxhw =>
    exact ⟨_, rfl, .word _ _⟩
  case pempty | pbool | pi32 | pu64 | ppair | pasu64 | pdes => exact ⟨_, rfl, .pair _ _ _⟩
  case wenc => exact ⟨_, rfl, .bytes4 ..⟩
  case pser => exact ⟨_, rfl, .bytes8 ..⟩
  case cmdenc => exact ⟨_, rfl, .lookup _ _ _⟩
  case cmddec => simp only [exec, execCmddec]; split <;> exact ⟨_, rfl, .lookup _ _ _⟩
  case extract => exact ⟨_, rfl, .payload _⟩
  case fser => exact ⟨_, rfl, .frame _⟩
  -- PKTRD, the four writers and the header commands read the packet out.
  all_goals exact ⟨_, rfl, .packet _⟩

section Shapes

variable {words bytes : Nat} {classified ill : Bool} {p : Packet} {r : Response}

theorem Drives.zeroBytesFrom (h : Drives words bytes classified ill p r) : ZeroBytesFrom bytes r.bout := by
  cases h
  case bytes4 => exact zeroBytesFrom_four _ _ _ _
  case bytes8 => exact zeroBytesFrom_eight _ _ _ _ _ _ _ _
  case frame => exact zeroBytesFrom_sixteen _
  all_goals exact zeroBytesFrom_quiet 0

/-- Whatever a shape does not drive is 0 (10_state.md R42). -/
theorem Drives.undriven_zero (h : Drives words bytes classified ill p r) :
    (words ≤ 0 → r.r0 = 0) ∧ (words ≤ 1 → r.r1 = 0) ∧ (words ≤ 2 → r.r2 = 0) ∧ (words ≤ 3 → r.r3 = 0) ∧
    ZeroBytesFrom bytes r.bout ∧ (classified = false → r.valid = false ∧ r.err = 0) ∧ r.ill = ill := by
  refine ⟨?_, ?_, ?_, ?_, h.zeroBytesFrom, ?_, ?_⟩ <;> cases h <;> simp [quiet, packetResponse]

/-- The classification of a response is that of a table lookup or of the packet, so it is legal when the packet is. -/
theorem Drives.legal (h : Drives words bytes classified ill p r) (hp : p.Legal) : r.Legal := by
  obtain ⟨hvalid, hcode⟩ := hp
  cases h
  case lookup => exact lookup_legal _ _
  case packet => exact packetResponse_legal ⟨hvalid, hcode⟩
  case payload | frame => exact ⟨hvalid, hcode, nofun⟩
  case illegal => exact ⟨nofun, Nat.zero_le 5, fun _ => rfl⟩
  all_goals exact ⟨nofun, Nat.zero_le 5, nofun⟩

end Shapes

/-! ## Instructions -/

theorem exec_total (i : Instr) (s : State) : ∃ t, exec i s = .next t :=
  let ⟨t, ht, _⟩ := exec_drives i s
  ⟨t, ht⟩

/-- No instruction reads the outputs of an earlier step: each drives all of them afresh (10_state.md R32, R42). -/
theorem exec_respond (i : Instr) (r : Response) (s : State) : exec i (respond r s) = exec i s := by
  cases i <;> rfl

theorem exec_keeps_cfg {i : Instr} {s t : State} (h : exec i s = .next t) : t.cfg = s.cfg := by
  obtain ⟨-, r, he⟩ | ⟨-, p, -, he⟩ := exec_cases i s <;> cases he.symm.trans h <;> rfl

theorem exec_keeps_pkt {i : Instr} {s t : State} (h : exec i s = .next t) (hi : writesPacket i = false) :
    t.pkt = s.pkt := by
  obtain ⟨-, r, he⟩ | ⟨hw, -⟩ := exec_cases i s
  · cases he.symm.trans h; rfl
  · simp [hi] at hw

theorem exec_keeps_legal_pkt {i : Instr} {s t : State} (h : exec i s = .next t) (hs : s.pkt.Legal) : t.pkt.Legal := by
  obtain ⟨-, r, he⟩ | ⟨-, p, hp, he⟩ := exec_cases i s <;> cases he.symm.trans h
  · exact hs
  · exact hp

theorem exec_inv {i : Instr} {s t : State} (h : exec i s = .next t) (hs : s.pkt.Legal) : t.Inv := by
  have hp := exec_keeps_legal_pkt h hs
  obtain ⟨u, hu, hd⟩ := exec_drives i s
  cases hu.symm.trans h
  exact ⟨hp, hd.legal hp⟩

/-! ## Steps -/

theorem quiet_legal : quiet.Legal := (Drives.nothing failedPacket).legal failedPacket_legal

/-- With a packet in the state space, the request at the head of the host's list is executed. -/
theorem step_request_of_le {s : State} {r : Request} {rest : List HostEvent} (hhost : s.host = .request r :: rest)
    (hpe : s.pkt.pe.toNat ≤ 5) : step s = exec (decodeCtrl r.ctrl) { s with host := rest, req := r } :=
  (step_request hhost).trans (perform_of_le hpe)

theorem step_request_of_gt {s : State} {r : Request} {rest : List HostEvent} (hhost : s.host = .request r :: rest)
    (hpe : 5 < s.pkt.pe.toNat) : step s = .fault .errorCodeOutsideStateSpace :=
  (step_request hhost).trans (perform_of_gt hpe)

/-- All that a step to a next state can be: nothing presented, the reset event, or a request executed. -/
theorem step_cases {s t : State} (h : step s = .next t) :
    (s.host = [] ∧ t = s) ∨
    (∃ presented rest, s.host = .reset presented :: rest ∧ t = applyReset { s with host := rest }) ∨
    (∃ r rest, s.host = .request r :: rest ∧
      exec (decodeCtrl r.ctrl) { s with host := rest, req := r } = .next t) := by
  match hhost : s.host with
  | [] => rw [step_nothing hhost] at h; cases h; exact .inl ⟨rfl, rfl⟩
  | .reset presented :: rest =>
    rw [step_reset hhost] at h; cases h; exact .inr (.inl ⟨presented, rest, rfl, rfl⟩)
  | .request r :: rest =>
    obtain hpe | hpe := le_or_gt s.pkt.pe.toNat 5
    · rw [step_request_of_le hhost hpe] at h; exact .inr (.inr ⟨r, rest, rfl, h⟩)
    · rw [step_request_of_gt hhost hpe] at h; cases h

/-- A step that performs a request does not depend on what the ports held before it. -/
theorem step_request_congr {s s' : State} {r : Request} {rest : List HostEvent} (hcfg : s.cfg = s'.cfg)
    (hpkt : s.pkt = s'.pkt) (hhost : s.host = .request r :: rest) (hhost' : s'.host = .request r :: rest) :
    step s = step s' := by
  have hports : ({ s with host := rest, req := r } : State) = respond s.resp { s' with host := rest, req := r } := by
    simp [respond, hcfg, hpkt]
  obtain hpe | hpe := le_or_gt s.pkt.pe.toNat 5
  · rw [step_request_of_le hhost hpe, step_request_of_le hhost' (hpkt ▸ hpe), hports, exec_respond]
  · rw [step_request_of_gt hhost hpe, step_request_of_gt hhost' (hpkt ▸ hpe)]

/-! ## Control words -/

/-- The mask of 30_encoding.md R82 keeps the two reserved fields and nothing else. -/
theorem and_reservedMask (w : Word) :
    w &&& 0xFFFE00E0#32 = ((rsv1Of w).setWidth 32 <<< 17) ||| ((rsv0Of w).setWidth 32 <<< 5) := by
  apply BitVec.eq_of_getLsbD_eq
  intro i hi
  interval_cases i <;> simp [rsv1Of, rsv0Of]

theorem rsv1Of_and_reservedMask (w : Word) : rsv1Of (w &&& 0xFFFE00E0#32) = rsv1Of w := by
  rw [rsv1Of, BitVec.extractLsb'_and]
  exact BitVec.and_allOnes

theorem rsv0Of_and_reservedMask (w : Word) : rsv0Of (w &&& 0xFFFE00E0#32) = rsv0Of w := by
  rw [rsv0Of, BitVec.extractLsb'_and]
  exact BitVec.and_allOnes

theorem and_reservedMask_eq_zero_iff (w : Word) : w &&& 0xFFFE00E0#32 = 0 ↔ reservedBitSet w = false := by
  simp only [reservedBitSet, Bool.or_eq_false_iff, bne_eq_false_iff_eq]
  constructor
  · intro h
    rw [← rsv1Of_and_reservedMask, ← rsv0Of_and_reservedMask, h]
    decide
  · rintro ⟨h1, h0⟩
    rw [and_reservedMask, h1, h0]
    rfl
theorem legalCtrl_iff (w : Word) : LegalCtrl w ↔ reservedBitSet w = false ∧ (opOf w).toNat ≤ 0x1D :=
  and_congr_left' (and_reservedMask_eq_zero_iff w)

/-- Of the operations, `OP` 0x13, 0x14, 0x16 and 0x17 write `PKT` (30_encoding.md R81). -/
theorem op_of_writesPacket_decodeOp {w : Word} (h : writesPacket (decodeOp w) = true) :
    opOf w = 0x13#5 ∨ opOf w = 0x14#5 ∨ opOf w = 0x16#5 ∨ opOf w = 0x17#5 := by
  simp only [← BitVec.toNat_inj]
  unfold decodeOp at h
  split at h <;> simp_all [writesPacket, Instr.headerFields?]

theorem decodeCtrl_writesPacket {w : Word} (h : writesPacket (decodeCtrl w) = true) :
    LegalCtrl w ∧ (opOf w = 0x13#5 ∨ opOf w = 0x14#5 ∨ opOf w = 0x16#5 ∨ opOf w = 0x17#5) := by
  unfold decodeCtrl at h
  split at h
  case isTrue => cases h
  case isFalse hlegal =>
    have hop := op_of_writesPacket_decodeOp h
    have hle : (opOf w).toNat ≤ 0x1D := by obtain h | h | h | h := hop <;> rw [h] <;> decide
    exact ⟨(legalCtrl_iff w).2 ⟨by simpa [hle] using hlegal, hle⟩, hop⟩

/-! ## The obligations -/

/-- Settles O9: the packet is kept or is one of the legal packets that an operation writes, and every response reads its
classification from a table lookup or from that packet. -/
theorem stepKeepsLegalPacketAndResponse : Obligations.StepKeepsLegalPacketAndResponse := by
  intro s t hs h
  obtain ⟨-, rfl⟩ | ⟨_, _, -, rfl⟩ | ⟨_, _, -, he⟩ := step_cases h
  · exact hs
  · exact ⟨failedPacket_legal, quiet_legal⟩
  · exact exec_inv he hs.1

/-- Settles O8, by the host's next event. -/
theorem stepStopsOnlyOutsideTheStateSpace : Obligations.StepStopsOnlyOutsideTheStateSpace := by
  intro s
  match hhost : s.host with
  | [] => simp [step_nothing hhost]
  | .reset presented :: rest => simp [step_reset hhost]
  | .request r :: rest =>
    obtain hpe | hpe := le_or_gt s.pkt.pe.toNat 5
    · obtain ⟨t, ht⟩ := exec_total (decodeCtrl r.ctrl) { s with host := rest, req := r }
      simp [step_request_of_le hhost hpe, ht, hpe]
    · have hstop := step_request_of_gt hhost hpe
      exact ⟨⟨fun _ => ⟨hpe, r, rest, rfl⟩, fun _ => ⟨_, hstop⟩⟩, by simp [hstop], by omega⟩

/-- Settles O12: of the three kinds of step, none writes the constants. -/
theorem configurationNeverChanges : Obligations.ConfigurationNeverChanges := by
  intro s t h
  obtain ⟨-, rfl⟩ | ⟨_, _, -, rfl⟩ | ⟨_, _, -, he⟩ := step_cases h
  · rfl
  · rfl
  · exact (exec_keeps_cfg he :)

/-- Settles O13, from the two things an instruction can do. -/
theorem onlyWritingOperationsChangePacket : Obligations.OnlyWritingOperationsChangePacket := by
  intro i s
  obtain ⟨hi, r, he⟩ | ⟨hi, p, -, he⟩ := exec_cases i s
  · exact ⟨_, he, fun _ => ⟨rfl, rfl, rfl, rfl⟩, by simp [hi]⟩
  · exact ⟨_, he, by simp [hi], fun _ => ⟨⟨rfl, rfl, rfl⟩, packetResponse_mirrors p⟩⟩

/-- Settles O14: what changes `PKT` is the reset or a writing instruction, and the decoder gives a writing instruction only
for those words. -/
theorem packetChangesOnlyByWritersAndReset : Obligations.PacketChangesOnlyByWritersAndReset := by
  intro s t h hne
  obtain ⟨-, rfl⟩ | ⟨presented, rest, hhost, -⟩ | ⟨r, rest, hhost, he⟩ := step_cases h
  · exact absurd rfl hne
  · exact .inl ⟨presented, rest, hhost⟩
  · have hw : writesPacket (decodeCtrl r.ctrl) = true := by
      by_contra hn
      exact hne (exec_keeps_pkt he (by simpa using hn) :)
    exact .inr ⟨r, rest, hhost, decodeCtrl_writesPacket hw⟩

/-- Settles O15: every instruction's response has a shape, and a shape leaves at 0 what it does not drive. -/
theorem undrivenOutputsAreZero : Obligations.UndrivenOutputsAreZero := by
  intro i s
  obtain ⟨t, ht, hd⟩ := exec_drives i s
  exact ⟨t, ht, hd.undriven_zero⟩

/-- Settles O18, by induction on the number of steps: after a request the two runs are in the same state, and after any
other event they still agree on the constants, `PKT` and the events to come. -/
theorem observationHasNoHiddenState : Obligations.ObservationHasNoHiddenState := by
  intro k
  induction k with
  | zero => intro s s' _ hpkt _; simp [observe, hpkt]
  | succ k ih =>
    intro s s' hcfg hpkt hhost
    match h : s.host with
    | [] =>
      have h' := hhost.symm.trans h
      simpa [observe, step_nothing h, step_nothing h', h, h'] using ih s s' hcfg hpkt hhost
    | .reset presented :: rest =>
      have h' := hhost.symm.trans h
      simpa [observe, step_reset h, step_reset h', h, h'] using
        ih (applyReset { s with host := rest }) (applyReset { s' with host := rest }) hcfg rfl rfl
    | .request r :: rest =>
      simp only [observe, step_request_congr hcfg hpkt h (hhost.symm.trans h), hhost, hpkt]

/-- Settles O7: the packet is in the state space, so the request is performed. -/
theorem stepRunsThePresentedRequest : Obligations.StepRunsThePresentedRequest :=
  fun _ _ _ hpe hhost => step_request_of_le hhost hpe

/-- Settles O10: the reset state holds the failed packet and the quiet response. -/
theorem resetValues : Obligations.ResetValues :=
  ⟨⟨failedPacket_legal, quiet_legal⟩, rfl, rfl, rfl, rfl, rfl, rfl, rfl, rfl, rfl, rfl, rfl, quiet_noBytes,
    quiet_noFlags⟩

end Sys2Proof.Machine

/-! Proofs of the family 20_memory.md: what an instruction neither reads nor writes, the repeated instruction, runs of
requests that write no `PKT`, and the family's obligations. -/

namespace Sys2Proof.Machine

/-! ## What an instruction neither reads nor writes -/

theorem exec_keeps_req {i : Instr} {s t : State} (h : exec i s = .next t) : t.req = s.req := by
  obtain ⟨-, r, he⟩ | ⟨-, p, -, he⟩ := exec_cases i s <;> cases he.symm.trans h <;> rfl

theorem exec_keeps_host {i : Instr} {s t : State} (h : exec i s = .next t) : t.host = s.host := by
  obtain ⟨-, r, he⟩ | ⟨-, p, -, he⟩ := exec_cases i s <;> cases he.symm.trans h <;> rfl

/-- No instruction looks at the host's further events: with others placed, it does the same. -/
theorem exec_withHost {i : Instr} {s t : State} (h : exec i s = .next t) (events : List HostEvent) :
    exec i { s with host := events } = .next { t with host := events } := by
  cases i
  -- CMDDEC looks `A[11:4]` up in the constants' table.
  case cmddec =>
    simp only [exec, execCmddec, operandA] at h ⊢
    split at h <;> cases h <;> rfl
  all_goals cases h; rfl

/-- A writing instruction does not read `PKT`: it writes all six fields from the request and the constants. -/
theorem exec_withPkt_of_writer {i : Instr} (hi : writesPacket i = true) (p : Packet) (s : State) :
    exec i { s with pkt := p } = exec i s := by
  -- `cases hi` leaves the writing instructions.
  cases i <;> cases hi <;> rfl

/-! ## The same instruction on the same `PKT`, and again -/

/-- What an instruction does is fixed by the constants, `PKT` and the request (20_memory.md R67). -/
theorem exec_congr {i : Instr} {s s' t : State} (h : exec i s = .next t) (hcfg : s'.cfg = s.cfg)
    (hpkt : s'.pkt = s.pkt) (hreq : s'.req = s.req) : exec i s' = .next { t with host := s'.host } := by
  have hs' : s' = respond s'.resp { s with host := s'.host } := by simp [respond, ← hcfg, ← hpkt, ← hreq]
  calc exec i s'
      = exec i (respond s'.resp { s with host := s'.host }) := congrArg _ hs'
    _ = exec i { s with host := s'.host } := exec_respond ..
    _ = .next { t with host := s'.host } := exec_withHost h _

/-- An instruction repeated on the state it gave changes nothing more (20_memory.md R67). -/
theorem exec_idempotent {i : Instr} {s t : State} (h : exec i s = .next t) : exec i t = .next t := by
  obtain ⟨-, r, he⟩ | ⟨hi, p, -, he⟩ := exec_cases i s <;> cases he.symm.trans h
  · exact (exec_respond i r s).trans h
  · exact (exec_respond i _ _).trans ((exec_withPkt_of_writer hi p s).trans h)

/-! ## Steps and runs -/

theorem run_succ_of_next {M : Host.Core} {s t : M.State} (k : Nat) (h : M.step s = .next t) :
    M.run (k + 1) s = M.run k t := by
  rw [Host.Core.run, h]

/-- A step that performs a request that writes no `PKT` takes the request from the host's list and keeps `PKT`. -/
theorem step_keeps_pkt_of_nonwriter {s : State} {r : Request} {rest : List HostEvent} (hpe : s.pkt.pe.toNat ≤ 5)
    (hhost : s.host = .request r :: rest) (hi : writesPacket (decodeCtrl r.ctrl) = false) :
    ∃ t, step s = .next t ∧ t.pkt = s.pkt ∧ t.host = rest ∧ t.cfg = s.cfg := by
  obtain ⟨t, ht⟩ := exec_total (decodeCtrl r.ctrl) { s with host := rest, req := r }
  exact ⟨t, (step_request_of_le hhost hpe).trans ht, (exec_keeps_pkt ht hi :), exec_keeps_host ht, (exec_keeps_cfg ht :)⟩

/-! ## The obligations -/

/-- Settles O16: the two steps execute the same instruction on states that differ in the outputs and the further events
alone. -/
theorem responseDependsOnRequestAndPacketAlone : Obligations.ResponseDependsOnRequestAndPacketAlone := by
  intro s s' r rest rest' hcfg hpkt hpe hhost hhost'
  obtain ⟨t, ht⟩ := exec_total (decodeCtrl r.ctrl) { s with host := rest, req := r }
  have ht' : exec (decodeCtrl r.ctrl) { s' with host := rest', req := r } = .next { t with host := rest' } :=
    exec_congr ht hcfg.symm hpkt.symm rfl
  exact ⟨t, _, (step_request_of_le hhost hpe).trans ht, (step_request_of_le hhost' (hpkt ▸ hpe)).trans ht', rfl, rfl⟩

/-- Settles O17: the first step leaves a legal packet and keeps the sampled request, so the second one executes the same
instruction on the state that it gave. -/
theorem repeatedRequestIsIdempotent : Obligations.RepeatedRequestIsIdempotent := by
  intro s r rest hs hhost
  obtain ⟨t, ht⟩ := exec_total (decodeCtrl r.ctrl) { s with host := .request r :: rest, req := r }
  have hpe : t.pkt.pe.toNat ≤ 5 := (exec_keeps_legal_pkt ht hs).2
  have hagain : exec (decodeCtrl r.ctrl) { t with host := rest, req := r } = .next { t with host := rest } :=
    exec_congr (exec_idempotent ht) rfl rfl (exec_keeps_req ht).symm
  exact ⟨t, _, (step_request_of_le hhost hs.2).trans ht, (step_request_of_le (exec_keeps_host ht) hpe).trans hagain,
    rfl, rfl, (exec_keeps_cfg ht :)⟩

/-- Settles O20, by induction on the list of requests. -/
theorem packetPersistsUntilTheNextWriter : Obligations.PacketPersistsUntilTheNextWriter := by
  intro rs
  induction rs with
  | nil => exact fun s rest _ hhost _ => ⟨s, rfl, rfl, hhost, rfl⟩
  | cons r rs ih =>
    intro s rest hpe hhost hi
    obtain ⟨hr, hrs⟩ := List.forall_mem_cons.1 hi
    obtain ⟨t, hstep, hpkt, hrest, hcfg⟩ := step_keeps_pkt_of_nonwriter hpe hhost hr
    obtain ⟨u, hrun, hpkt', hrest', hcfg'⟩ := ih t rest (hpkt ▸ hpe) hrest hrs
    exact ⟨u, (run_succ_of_next rs.length hstep).trans hrun, hpkt'.trans hpkt, hrest', hcfg'.trans hcfg⟩

end Sys2Proof.Machine

/-! Proofs of the family 30_encoding.md: the fields of a written word, decoding against encoding, illegal requests,
header commands, the inputs that an operation reads, the checks of PARSE, and the family's obligations. -/

namespace Sys2Proof.Machine

/-! ## The fields of a written control word -/

@[simp] theorem ctrlWord_fields (barg : Bool) (chan : BitVec 2) (isSet : Bool) (sel op : BitVec 5) :
    bargOf (ctrlWord barg chan isSet sel op) = barg ∧ chanOf (ctrlWord barg chan isSet sel op) = chan ∧
    isSetOf (ctrlWord barg chan isSet sel op) = isSet ∧ selOf (ctrlWord barg chan isSet sel op) = sel ∧
    opOf (ctrlWord barg chan isSet sel op) = op := by
  refine ⟨by simp [bargOf, ctrlWord], ?_, by simp [isSetOf, ctrlWord], ?_, ?_⟩ <;> apply BitVec.eq_of_getLsbD_eq <;>
    intro k hk <;> interval_cases k <;> simp [chanOf, selOf, opOf, ctrlWord]

theorem reservedBitSet_ctrlWord (barg : Bool) (chan : BitVec 2) (isSet : Bool) (sel op : BitVec 5) :
    reservedBitSet (ctrlWord barg chan isSet sel op) = false := by
  rw [← and_reservedMask_eq_zero_iff]
  apply BitVec.eq_of_getLsbD_eq
  intro k hk
  interval_cases k <;> simp [ctrlWord]

/-- The word of an illegal request by its reserved bits, field by field. -/
theorem encodeCtrl_reservedBitsSet_fields (rsv1 : BitVec 15) (rsv0 : BitVec 3) (op : BitVec 5) :
    rsv1Of (encodeCtrl (.reservedBitsSet rsv1 rsv0 op)) = rsv1 ∧
    rsv0Of (encodeCtrl (.reservedBitsSet rsv1 rsv0 op)) = rsv0 ∧
    opOf (encodeCtrl (.reservedBitsSet rsv1 rsv0 op)) = op := by
  refine ⟨?_, ?_, ?_⟩ <;> apply BitVec.eq_of_getLsbD_eq <;> intro k hk <;>
    interval_cases k <;> simp [encodeCtrl, rsv1Of, rsv0Of, opOf]

/-! ## Decoding -/

theorem decodeCtrl_of_reservedBitSet {w : Word} (hop : (opOf w).toNat ≤ 0x1D) (hw : reservedBitSet w = true) :
    decodeCtrl w = .reservedBitsSet (rsv1Of w) (rsv0Of w) (opOf w) :=
  if_pos ⟨hop, hw⟩

theorem decodeCtrl_of_noReservedBit {w : Word} (hw : reservedBitSet w = false) : decodeCtrl w = decodeOp w :=
  if_neg (by simp [hw])

theorem decodeCtrl_of_legal {w : Word} (hw : LegalCtrl w) : decodeCtrl w = decodeOp w :=
  decodeCtrl_of_noReservedBit ((legalCtrl_iff w).1 hw).1

/-- Every request but those of the header format is read back from its control word. -/
theorem decodeCtrl_encodeCtrl {i : Instr} (hw : i.wellFormed = true) (hi : i.headerFields? = none) :
    decodeCtrl (encodeCtrl i) = i := by
  cases i
  case reservedBitsSet rsv1 rsv0 op =>
    obtain ⟨h1, h0, hop⟩ := encodeCtrl_reservedBitsSet_fields rsv1 rsv0 op
    obtain ⟨hbit, hle⟩ : (rsv1 ≠ 0 ∨ rsv0 ≠ 0) ∧ op.toNat ≤ 0x1D := by simpa [Instr.wellFormed] using hw
    rw [decodeCtrl_of_reservedBitSet (by rwa [hop]) (by simpa [reservedBitSet, h1, h0] using hbit), h1, h0, hop]
  -- The three operations that read `CTRL` fields besides `OP`.
  case pbool | cmdenc | build =>
    rw [encodeCtrl, decodeCtrl_of_noReservedBit (reservedBitSet_ctrlWord ..)]
    simp [decodeOp]
  -- The others are one written word each.
  case idle | wenc | wdec | pempty | pi32 | pu64 | ppair | phigh | plow | pasu64 | pasu32 | pasi32 | pasbool | pser
    | pdes | cmddec | cksum | parse | fser | fdes | fail | extract | pktrd | vxsw | vxrec | vxfpga | vxhw | reserved1E
    | reserved1F => rfl
  -- `hi` excludes the header commands.
  all_goals cases hi

theorem decodeOp_wellFormed (w : Word) : (decodeOp w).wellFormed = true := by
  unfold decodeOp; split <;> rfl

theorem decodeOp_headerFields? (w : Word) : (decodeOp w).headerFields? = none := by
  unfold decodeOp; split <;> rfl

theorem decodeCtrl_wellFormed (w : Word) : (decodeCtrl w).wellFormed = true := by
  unfold decodeCtrl
  split
  case isTrue h => simpa [Instr.wellFormed, reservedBitSet, and_comm] using h
  case isFalse => exact decodeOp_wellFormed w

theorem decodeCtrl_headerFields? (w : Word) : (decodeCtrl w).headerFields? = none := by
  unfold decodeCtrl
  split
  case isTrue => rfl
  case isFalse => exact decodeOp_headerFields? w

/-! ## Illegal requests -/

/-- Of the operations, the two reserved `OP` values alone are illegal (30_encoding.md R82). -/
theorem isIllegal_decodeOp (w : Word) : isIllegal (decodeOp w) = decide (0x1D < (opOf w).toNat) := by
  unfold decodeOp
  split
  -- The last pattern, for whatever `OP` is not 0 to 0x1E.
  case h_32 => simp only [isIllegal, imp_false, true_eq_decide_iff] at *; omega
  all_goals next h => simp [isIllegal, h]

theorem isIllegal_decodeCtrl_eq_false_iff (w : Word) : isIllegal (decodeCtrl w) = false ↔ LegalCtrl w := by
  rw [legalCtrl_iff]
  unfold decodeCtrl
  split
  case isTrue h => simp [isIllegal, h.2]
  case isFalse h =>
    simp only [isIllegal_decodeOp, decide_eq_false_iff_not, not_lt]
    exact ⟨fun hle => ⟨by simpa [hle] using h, hle⟩, And.right⟩

theorem exec_of_isIllegal {i : Instr} (hi : isIllegal i = true) (s : State) :
    exec i s = .next (raiseIllegalRequest s) := by
  -- `cases hi` leaves the three illegal rows.
  cases i <;> cases hi <;> rfl

theorem not_legalCtrl_iff (w : Word) :
    ¬ LegalCtrl w ↔ (opOf w = 0x1E#5 ∨ opOf w = 0x1F#5 ∨ rsv1Of w ≠ 0 ∨ rsv0Of w ≠ 0) := by
  have hop : (opOf w).toNat ≤ 0x1D ↔ opOf w ≠ 0x1E#5 ∧ opOf w ≠ 0x1F#5 := by bv_omega
  rw [legalCtrl_iff, hop]
  simp only [reservedBitSet, Bool.or_eq_false_iff, bne_eq_false_iff_eq]
  tauto

/-! ## Header commands -/

theorem headerFields?_of_headerCommand? {sel : BitVec 5} {isSet : Bool} {chan : BitVec 2} {i : Instr}
    (h : headerCommand? sel isSet chan = some i) : i.headerFields? = some (sel, isSet, chan) := by
  unfold headerCommand? at h
  split at h <;> cases h <;> next hsel => simp [Instr.headerFields?, ← BitVec.toNat_inj, hsel]

/-- A header command does what BUILD of its fields does (log entry 7). -/
theorem exec_of_headerFields? {sel : BitVec 5} {isSet : Bool} {chan : BitVec 2} {i : Instr}
    (h : i.headerFields? = some (sel, isSet, chan)) (s : State) : exec i s = .next (performBuild sel chan isSet s) := by
  -- `cases h` leaves the header commands and gives each its selector.
  cases i <;> cases h <;> rfl

theorem encodeCtrl_of_headerFields? {sel : BitVec 5} {isSet : Bool} {chan : BitVec 2} {i : Instr}
    (h : i.headerFields? = some (sel, isSet, chan)) : encodeCtrl i = encodeCtrl (.build chan isSet sel) := by
  cases i <;> cases h <;> rfl

theorem headerCmd_headerWord (cfg : Config) (sel : BitVec 5) (chan : BitVec 2) (isSet : Bool) :
    headerCmd (headerWord cfg sel chan isSet) = cmdPattern cfg sel := by
  obtain ⟨-, -, -, -, hcmd, -, -⟩ := headerWord_fields cfg sel chan isSet
  exact hcmd

theorem headerSg_headerWord (cfg : Config) (sel : BitVec 5) (chan : BitVec 2) (isSet : Bool) :
    headerSg (headerWord cfg sel chan isSet) = isSet := by
  obtain ⟨-, -, hsg, -, -, -, -⟩ := headerWord_fields cfg sel chan isSet
  exact hsg

theorem headerChan_headerWord (cfg : Config) (sel : BitVec 5) (chan : BitVec 2) (isSet : Bool) :
    headerChan (headerWord cfg sel chan isSet) = chan := by
  obtain ⟨-, -, -, -, -, -, hchan⟩ := headerWord_fields cfg sel chan isSet
  exact hchan

/-- With an injective table, a recognized selector's pattern gives that selector back (42_command_type.md R180). -/
theorem cmdSelector_cmdPattern {cfg : Config} (hc : cfg.cmdIdsDistinct = true) {sel : BitVec 5}
    (hsel : sel.toNat ≤ 22) : cmdSelector cfg (cmdPattern cfg sel) = some sel := by
  rw [cmdPattern_of_le cfg sel hsel, cmdSelector_cmdId hc sel.toNat (by omega), BitVec.ofNat_toNat, BitVec.setWidth_eq]

/-- A header command is read back from its header word. -/
theorem decodeHeader_headerWord {cfg : Config} (hc : cfg.cmdIdsDistinct = true) {sel : BitVec 5} {isSet : Bool}
    {chan : BitVec 2} {i : Instr} (h : i.headerFields? = some (sel, isSet, chan)) :
    decodeHeader cfg (headerWord cfg sel chan isSet) = .ok i := by
  obtain ⟨hsel, hi⟩ := headerCommand?_fields h
  simp only [decodeHeader, headerCmd_headerWord, headerSg_headerWord, headerChan_headerWord,
    cmdSelector_cmdPattern hc hsel, Option.bind_some, hi]

/-! ## The operation of a control word and the inputs it reads -/

/-- The rule "`CTRL.OP = op`" of an operation, from what `OP` alone selects. -/
theorem opSelects_of_decodeOp {op : BitVec 5} {i : Word → Instr} (h : ∀ w, opOf w = op → decodeOp w = i w) :
    OpSelects op i :=
  fun w hw hop => (decodeCtrl_of_legal hw).trans (h w hop)

/-- `CTRL[15:8]` holds the three fields that BUILD reads. -/
theorem buildFields_of_extractLsb' (w : Word) :
    chanOf w = (w.extractLsb' 8 8).extractLsb' 6 2 ∧ isSetOf w = (w.extractLsb' 8 8).getLsbD 5 ∧
    selOf w = (w.extractLsb' 8 8).extractLsb' 0 5 := by
  refine ⟨BitVec.eq_of_getLsbD_eq fun k hk => ?_, by simp [isSetOf], BitVec.eq_of_getLsbD_eq fun k hk => ?_⟩ <;>
    interval_cases k <;> simp [chanOf, selOf]

/-- Two control words with one `OP` that agree on the `CTRL` fields this operation reads name one instruction. -/
theorem decodeOp_congr {r r' : Request} (hop : opOf r.ctrl = opOf r'.ctrl)
    (h : inputsAgree (opOf r.ctrl).toNat r r') : decodeOp r.ctrl = decodeOp r'.ctrl := by
  unfold decodeOp
  rw [← hop]
  split <;> rename_i hnum <;> simp only [hnum, inputsAgree] at h
  -- PBOOL, CMDENC and BUILD keep fields of the word.
  case h_5 => simpa [bargOf] using h
  case h_17 => simpa [selOf] using h
  case h_20 =>
    obtain ⟨hchan, hset, hsel⟩ := buildFields_of_extractLsb' r.ctrl
    obtain ⟨hchan', hset', hsel'⟩ := buildFields_of_extractLsb' r'.ctrl
    rw [hchan, hset, hsel, hchan', hset', hsel', h.1]
  all_goals rfl

/-- The operand half of `inputsAgree`, by instruction: the operand words and `BIN` bytes that it reads are the same. -/
def operandsAgree (i : Instr) (r r' : Request) : Prop :=
  match i with
  | .wenc | .pi32 | .cmddec | .vxsw | .vxrec | .vxfpga => r.a = r'.a
  | .vxhw => r.b = r'.b
  | .pu64 | .ppair | .phigh | .plow | .pasu64 | .pasu32 | .pasi32 | .pasbool | .pser | .build _ _ _ =>
    r.a = r'.a ∧ r.b = r'.b
  | .cksum | .parse => r.a = r'.a ∧ r.b = r'.b ∧ r.c = r'.c ∧ r.d = r'.d
  | .wdec => ∀ k : Fin 4, r.bin[k.val] = r'.bin[k.val]
  | .pdes => ∀ k : Fin 8, r.bin[k.val] = r'.bin[k.val]
  | .fdes => r.bin = r'.bin
  | _ => i.headerFields?.isSome = true → r.a = r'.a ∧ r.b = r'.b

/-- The row that `inputsAgree` has for an `OP` lists what the operation of that `OP` reads. -/
theorem operandsAgree_decodeOp {r r' : Request} (h : inputsAgree (opOf r.ctrl).toNat r r') :
    operandsAgree (decodeOp r.ctrl) r r' := by
  unfold decodeOp
  split <;> rename_i hnum <;> simp_all [inputsAgree, operandsAgree, Instr.headerFields?]

theorem binBytes4_congr {s s' : State} (h : ∀ k : Fin 4, s.req.bin[k.val] = s'.req.bin[k.val]) :
    binBytes4 s = binBytes4 s' :=
  Vector.ext fun k hk => by interval_cases k <;> exact h ⟨_, hk⟩

theorem binBytes8_congr {s s' : State} (h : ∀ k : Fin 8, s.req.bin[k.val] = s'.req.bin[k.val]) :
    binBytes8 s = binBytes8 s' :=
  Vector.ext fun k hk => by interval_cases k <;> exact h ⟨_, hk⟩

/-- An instruction answers the same on two requests that agree on the operands it reads: of its next state only the
sampled request differs. -/
theorem exec_of_operandsAgree {i : Instr} {s t : State} {r r' : Request} (h : operandsAgree i r r')
    (ht : exec i { s with req := r } = .next t) : exec i { s with req := r' } = .next { t with req := r' } := by
  obtain ⟨ctrl, a, b, c, d, bin⟩ := r
  obtain ⟨ctrl', a', b', c', d', bin'⟩ := r'
  cases i
  case wdec =>
    have hbin : binBytes4 { s with req := ⟨ctrl', a', b', c', d', bin'⟩ } =
        binBytes4 { s with req := ⟨ctrl, a, b, c, d, bin⟩ } := binBytes4_congr fun k => (h k).symm
    cases ht
    rw [exec, execWdec, hbin]
    rfl
  case pdes =>
    have hbin : binBytes8 { s with req := ⟨ctrl', a', b', c', d', bin'⟩ } =
        binBytes8 { s with req := ⟨ctrl, a, b, c, d, bin⟩ } := binBytes8_congr fun k => (h k).symm
    cases ht
    rw [exec, execPdes, hbin]
    rfl
  case fdes => obtain rfl : bin = bin' := h; cases ht; rfl
  case cmddec =>
    obtain rfl : a = a' := h
    simp only [exec, execCmddec, operandA] at ht ⊢
    split at ht <;> cases ht <;> rfl
  case wenc | pi32 | vxsw | vxrec | vxfpga => obtain rfl : a = a' := h; cases ht; rfl
  case vxhw => obtain rfl : b = b' := h; cases ht; rfl
  case pu64 | ppair | phigh | plow | pasu64 | pasu32 | pasi32 | pasbool | pser | build =>
    obtain ⟨rfl, rfl⟩ : a = a' ∧ b = b' := h; cases ht; rfl
  case cksum | parse => obtain ⟨rfl, rfl, rfl, rfl⟩ : a = a' ∧ b = b' ∧ c = c' ∧ d = d' := h; cases ht; rfl
  -- These read no operand.
  case idle | pempty | pbool | cmdenc | fser | fail | extract | pktrd | reserved1E | reserved1F | reservedBitsSet =>
    cases ht; rfl
  -- The header commands read the payload ports, as BUILD does.
  all_goals obtain ⟨rfl, rfl⟩ : a = a' ∧ b = b' := h rfl; cases ht; rfl

/-! ## PARSE -/

theorem parse_pv_iff (cfg : Config) (h hi lo f : Word) : (parse cfg h hi lo f).pv = true ↔
    checksum cfg h hi lo f = cksField f ∧ carriesPrefix cfg h = true ∧ carriesSuffix cfg f = true ∧
      acknowledged h = true := by
  simp only [parse, classify, beq_iff_eq]
  split_ifs <;> simp_all

/-- The mask that clears the footer's checksum field keeps its suffix (43_checksum.md R190). -/
theorem and_suffixMask (f : Word) : f &&& 0xFFFF0000#32 = f.extractLsb' 16 16 ++ 0#16 := by
  rw [← suffix_shift]
  apply BitVec.eq_of_getLsbD_eq
  intro k hk
  interval_cases k <;> simp

theorem checksum_append (cfg : Config) (h hi lo : Word) (suffix cks : Half) :
    checksum cfg h hi lo (suffix ++ cks) = checksumFn cfg h hi lo (suffix ++ 0#16) := by
  rw [checksum, and_suffixMask, BitVec.extractLsb'_append_eq_left]

theorem cksField_append (suffix cks : Half) : cksField (suffix ++ cks) = cks := BitVec.extractLsb'_append_eq_right

theorem carriesSuffix_append (cfg : Config) (cks : Half) : carriesSuffix cfg (cfg.suffixValue ++ cks) = true :=
  beq_iff_eq.2 BitVec.extractLsb'_append_eq_left

theorem carriesPrefix_append (cfg : Config) (ack : BitVec 1) (fields : BitVec 15) :
    carriesPrefix cfg (cfg.prefixValue ++ ack ++ fields) = true :=
  beq_iff_eq.2 ((BitVec.extractLsb'_append_eq_of_le (by decide)).trans BitVec.extractLsb'_append_eq_left)

theorem acknowledged_append_iff (p : Half) (ack : BitVec 1) (fields : BitVec 15) :
    acknowledged (p ++ ack ++ fields) = true ↔ ack = 0#1 := by
  have hbit : headerAck (p ++ ack ++ fields) = ack.getLsbD 0 := BitVec.getLsbD_append.trans BitVec.getLsbD_append
  rw [acknowledged, hbit]
  clear hbit
  revert ack
  decide

/-! ## CMDDEC and BUILD -/

theorem execCmddec_of_some {s : State} {sel : BitVec 5} (h : cmdSelector s.cfg (headerCmd s.req.a) = some sel) :
    exec .cmddec s = .next (driveLookup (sel.setWidth 32) true s) := by
  simp only [exec, execCmddec, operandA, h]

theorem build_of_recognized {sel : BitVec 5} (h : sel.toNat ≤ 22) (cfg : Config) (chan : BitVec 2) (isSet : Bool)
    (hi lo : Word) : (build cfg sel chan isSet hi lo).pv = true ∧ (build cfg sel chan isSet hi lo).pe = 0 := by
  simp [build, recognized, h, recognitionKind, errorCode]

theorem build_of_unrecognized {sel : BitVec 5} (h : 22 < sel.toNat) (cfg : Config) (chan : BitVec 2) (isSet : Bool)
    (hi lo : Word) : (build cfg sel chan isSet hi lo).pv = false ∧ (build cfg sel chan isSet hi lo).pe = 5 := by
  simp [build, recognized, Nat.not_le.2 h, recognitionKind, errorCode]

/-! ## The obligations -/

/-- Settles O1: a header command is read back from its header word, every other instruction from its control word. -/
theorem decodeInvertsEncode : Obligations.DecodeInvertsEncode := by
  intro cfg hc i hw
  match hi : i.headerFields? with
  | none => simp [Instr.format, encode, decode, hi, decodeCtrl_encodeCtrl hw hi]
  | some (sel, isSet, chan) => simp [Instr.format, encode, decode, hi, decodeHeader_headerWord hc hi]

/-- Settles O2: what a control word decodes to is a well-formed request, and such an instruction is read back from its
word. -/
theorem encodeKeepsWhatDecodeReads : Obligations.EncodeKeepsWhatDecodeReads := fun w =>
  ⟨decodeCtrl_wellFormed w, by simp [Instr.format, decodeCtrl_headerFields?],
    decodeCtrl_encodeCtrl (decodeCtrl_wellFormed w) (decodeCtrl_headerFields? w)⟩

/-- Settles O4: an illegal word is one that is not legal by the mask, and its request is performed as nothing. -/
theorem illegalExactlyByReservedOpOrBits : Obligations.IllegalExactlyByReservedOpOrBits := by
  intro w
  have hlegal := isIllegal_decodeCtrl_eq_false_iff w
  refine ⟨?_, hlegal, fun hi s => ⟨_, exec_of_isIllegal hi s, ⟨rfl, rfl, rfl, rfl⟩, illegal_indicated⟩⟩
  rw [← Bool.not_eq_false, hlegal]
  exact not_legalCtrl_iff w

/-- Settles O5: the two words name one operation, which answers alike on the inputs that it reads. -/
theorem unreadInputsAreIgnored : Obligations.UnreadInputsAreIgnored := by
  intro s r r' rest hpe hr hr' hop h
  obtain ⟨t, ht⟩ := exec_total (decodeOp r.ctrl) { s with host := rest, req := r }
  have ht' := exec_of_operandsAgree (s := { s with host := rest }) (operandsAgree_decodeOp h) ht
  rw [decodeOp_congr hop h, ← decodeCtrl_of_legal hr'] at ht'
  rw [← decodeCtrl_of_legal hr] at ht
  exact ⟨t, _, (step_request_of_le (s := { s with host := _ }) rfl hpe).trans ht,
    (step_request_of_le (s := { s with host := _ }) rfl hpe).trans ht', rfl, rfl⟩

/-- Settles O6: a header command does what BUILD does, and its control word is that of BUILD. -/
theorem buildRequestRunsItsHeaderCommand : Obligations.BuildRequestRunsItsHeaderCommand := by
  intro sel chan isSet i hi
  have hfields := headerFields?_of_headerCommand? hi
  have hexec (s : State) : exec (.build chan isSet sel) s = exec i s := (exec_of_headerFields? hfields s).symm
  refine ⟨hexec, fun s r rest hpe hhost hctrl => ?_⟩
  rw [step_request_of_le hhost hpe, hctrl, encodeCtrl_of_headerFields? hfields, decodeCtrl_encodeCtrl rfl rfl, hexec]

/-- Settles O37: the header that BUILD writes carries the selector's pattern, which CMDDEC looks up. -/
theorem commandDecodeOfBuiltHeader : Obligations.CommandDecodeOfBuiltHeader := by
  intro s chan isSet sel hc hsel
  have hfound : cmdSelector s.cfg (headerCmd (headerWord s.cfg sel chan isSet)) = some sel := by
    rw [headerCmd_headerWord, cmdSelector_cmdPattern hc hsel]
  refine ⟨performBuild sel chan isSet s, _, rfl, execCmddec_of_some hfound, ?_⟩
  exact ⟨rfl, rfl, rfl, rfl, quiet_noBytes, rfl, rfl, rfl⟩

/-- Settles O42, from the fields of the header and the footer word. -/
theorem buildResult : Obligations.BuildResult := by
  refine ⟨opSelects_of_decodeOp fun w hop => ?_, fun s chan isSet sel => ?_⟩
  · simp [decodeOp, hop, chanOf, isSetOf, selOf]
  · obtain ⟨hprefix, hack, hsg, hrsvh, hcmd, hrsvl, hchan⟩ := headerWord_fields s.cfg sel chan isSet
    obtain ⟨hsuffix, hcks⟩ := footerWord_fields s.cfg (headerWord s.cfg sel chan isSet) s.req.a s.req.b
    refine ⟨performBuild sel chan isSet s, rfl, ⟨rfl, rfl, rfl⟩, hprefix, hack, hsg, hrsvh, hcmd, hrsvl, hchan, rfl,
      rfl, hsuffix, hcks, fun h => build_of_recognized h .., fun h => build_of_unrecognized h ..,
      packetResponse_mirrors _⟩

/-- Settles O44: of a header, PARSE reads bits 31 to 16, which are right here, and the ack bit. -/
theorem parseReadsNoOtherHeaderField : Obligations.ParseReadsNoOtherHeaderField := by
  intro s fields ack cks ha hd
  refine ⟨_, rfl, (parse_pv_iff ..).trans ?_⟩
  have hprefix : carriesPrefix s.cfg s.req.a = true := ha ▸ carriesPrefix_append ..
  have hack : acknowledged s.req.a = true ↔ ack = 0#1 := ha ▸ acknowledged_append_iff ..
  simp only [operandA, operandB, operandC, operandD, hd, hprefix, hack, checksum_append, cksField_append,
    carriesSuffix_append, true_and]
  exact and_comm.trans (and_congr_right' eq_comm)

/-- Settles O3, by evaluating the decoders on the eight words. -/
theorem writtenWordsDecode : Obligations.WrittenWordsDecode := by
  unfold Obligations.WrittenWordsDecode
  decide

end Sys2Proof.Machine

/-! Proofs of the family 40_word_codec.md: the codec's two functions against each other, the bytes and words that the
drive operations put on the ports, and the family's obligations. -/

namespace Sys2Proof.Machine

/-! ## The codec -/

/-- `EncodeWord` by index: byte `k` of the encoding is the big-endian byte `k` of the word (40_word_codec.md R110). -/
theorem encodeWord_getElem_toNat (w : Word) (k : Fin 4) : (encodeWord w)[k.val].toNat = byteOf w k.val := by
  obtain ⟨h0, h1, h2, h3⟩ := encodeWord_toNat w
  match k with
  | 0 => exact h0
  | 1 => exact h1
  | 2 => exact h2
  | 3 => exact h3

/-- Adjacent byte fields of a word join into one field, so the four bytes join into the word. -/
theorem decodeWord_encodeWord (w : Word) : decodeWord (encodeWord w) = w := by
  rw [decodeWord, encodeWord_getElem_0, encodeWord_getElem_1, encodeWord_getElem_2, encodeWord_getElem_3,
    BitVec.extractLsb'_append_extractLsb'_eq_extractLsb' (show 24 = 16 + 8 from rfl),
    BitVec.extractLsb'_append_extractLsb'_eq_extractLsb' (show 16 = 8 + 8 from rfl),
    BitVec.extractLsb'_append_extractLsb'_eq_extractLsb' (show 8 = 0 + 8 from rfl)]
  exact BitVec.extractLsb'_eq_self

/-- Each byte field of a joined word is the byte that was put there. -/
theorem encodeWord_decodeWord (b : Bytes4) : encodeWord (decodeWord b) = b := by
  apply Vector.ext
  intro k hk
  match k with
  | 0 =>
    rw [encodeWord_getElem_0, decodeWord, BitVec.extractLsb'_append_eq_of_le (by decide),
      BitVec.extractLsb'_append_eq_of_le (by decide), BitVec.extractLsb'_append_eq_left]
  | 1 =>
    rw [encodeWord_getElem_1, decodeWord, BitVec.extractLsb'_append_eq_of_le (by decide),
      BitVec.extractLsb'_append_eq_of_le (by decide), BitVec.extractLsb'_append_eq_right]
  | 2 =>
    rw [encodeWord_getElem_2, decodeWord, BitVec.extractLsb'_append_eq_of_le (by decide),
      BitVec.extractLsb'_append_eq_right]
  | 3 => rw [encodeWord_getElem_3, decodeWord, BitVec.extractLsb'_append_eq_right]

/-! ## What the drive operations put on the ports -/

theorem respond_onlyResponseChanges (r : Response) (s : State) : OnlyResponseChanges s (respond r s) :=
  ⟨rfl, rfl, rfl, rfl⟩

theorem driveR0_drivesWords (x : Word) (s : State) : DrivesWords (driveR0 x s).resp x 0 :=
  ⟨rfl, rfl, rfl, rfl, quiet_noBytes, quiet_noFlags⟩

theorem driveBout4_bout_of_lt (b : Bytes4) (s : State) {k : Nat} (hk : k < 4) :
    (driveBout4 b s).resp.bout[k] = b[k] := by
  match k with
  | 0 | 1 | 2 | 3 => rfl

theorem driveBout4_zeroBytesFrom (b : Bytes4) (s : State) : ZeroBytesFrom 4 (driveBout4 b s).resp.bout :=
  zeroBytesFrom_four _ _ _ _

/-- `BOUT` after an encoded word is driven: its four bytes, then zeros (40_word_codec.md R113). -/
theorem driveBout4_encodeWord_toNat (w : Word) (s : State) (k : Fin 16) :
    (driveBout4 (encodeWord w) s).resp.bout[k.val].toNat = if k.val < 4 then byteOf w k.val else 0 := by
  split
  case isTrue hk => rw [driveBout4_bout_of_lt _ _ hk, encodeWord_getElem_toNat w ⟨k.val, hk⟩]
  case isFalse hk => rw [driveBout4_zeroBytesFrom _ _ k (Nat.le_of_not_lt hk)]; rfl

/-! ## The obligations -/

/-- Settles O24, the two directions by joining and by cutting at the byte boundaries. -/
theorem wordCodecIsInverse : Obligations.WordCodecIsInverse :=
  ⟨decodeWord_encodeWord, encodeWord_decodeWord⟩

/-- Settles O25: WENC drives `BOUT` with the encoding of A. -/
theorem wordEncodeResult : Obligations.WordEncodeResult := by
  refine ⟨opSelects_of_decodeOp fun w hop => by simp [decodeOp, hop], fun s => ?_⟩
  exact ⟨driveBout4 (encodeWord s.req.a) s, rfl, respond_onlyResponseChanges _ s, driveBout4_encodeWord_toNat _ s,
    rfl, rfl, rfl, rfl, quiet_noFlags⟩

/-- Settles O26: WDEC drives `R0` with the decoding of `BIN[0..3]`. -/
theorem wordDecodeResult : Obligations.WordDecodeResult := by
  refine ⟨opSelects_of_decodeOp fun w hop => by simp [decodeOp, hop], fun s => ?_⟩
  exact ⟨_, decodeWord (binBytes4 s), rfl, respond_onlyResponseChanges _ s, driveR0_drivesWords _ s,
    decodeWord_toNat (binBytes4 s)⟩

end Sys2Proof.Machine

/-! Proofs of the family 41_payload.md: the two halves of a 64-bit value, the payload's byte form there and back, what the
payload unit's computing operations put on the ports, and the family's obligations. -/

namespace Sys2Proof.Machine

/-! ## The two halves of a 64-bit value -/

/-- (zext_64(high) << 32) | zext_64(low) is the one word beside the other (41_payload.md R130, 30_encoding.md R84). -/
theorem asUint64_eq_append (high low : Word) : asUint64 high low = high ++ low :=
  BitVec.setWidth_append_eq_shiftLeft_setWidth_or.symm.trans (BitVec.setWidth_eq _)

/-- A joined value, cut where it was joined, drives the two words again. -/
theorem driveR0R1_halves_append (high low : Word) (s : State) :
    driveR0R1 ((high ++ low).extractLsb' 32 32) ((high ++ low).extractLsb' 0 32) s = driveR0R1 high low s := by
  rw [BitVec.extractLsb'_append_eq_left, BitVec.extractLsb'_append_eq_right]

theorem exec_pu64 (s : State) : exec .pu64 s = .next (driveR0R1 s.req.a s.req.b s) :=
  congrArg Host.Outcome.next (driveR0R1_halves_append s.req.a s.req.b s)

theorem exec_pasu64 (s : State) : exec .pasu64 s = .next (driveR0R1 s.req.a s.req.b s) := by
  show execPasu64 s = _
  rw [execPasu64, asUint64_eq_append]
  exact exec_pu64 s

/-- The halves of the number `high * 2^32 + low` are the two words. -/
theorem halves_toNat (high low : Word) : high.toNat = (high.toNat * 2 ^ 32 + low.toNat) / 2 ^ 32 ∧
    low.toNat = (high.toNat * 2 ^ 32 + low.toNat) % 2 ^ 32 := by
  have := low.isLt
  omega

/-! ## Booleans and signed words -/

theorem exec_pbool (barg : Bool) (s : State) :
    exec (.pbool barg) s = .next (driveR0R1 0 (if barg then 1 else 0) s) := by
  cases barg <;> rfl

theorem exec_pasbool (s : State) : exec .pasbool s = .next (driveR0 (if s.req.b.toNat = 0 then 0 else 1) s) := by
  have hzero : s.req.b = 0 ↔ s.req.b.toNat = 0 := BitVec.toNat_inj.symm
  simp only [exec, execPasbool, operandB, bne_iff_ne, ne_eq, ite_not, hzero]

/-- i32(w): bit 31 weighs -2^31 (41_payload.md R132, 00_scope.md R9). -/
theorem word_toInt (w : Word) :
    w.toInt = if w.getLsbD 31 then (w.toNat : Int) - 4294967296 else (w.toNat : Int) := by
  rw [BitVec.toInt_eq_msb_cond, BitVec.msb_eq_getLsbD_last]
  rfl

/-! ## The payload's byte form -/

theorem payloadSerialize_getElem_high (high low : Word) (k : Fin 4) :
    (payloadSerialize high low)[k.val] = (encodeWord high)[k.val] := by
  match k with
  | 0 | 1 | 2 | 3 => rfl

theorem payloadSerialize_getElem_low (high low : Word) (k : Fin 4) :
    (payloadSerialize high low)[k.val + 4] = (encodeWord low)[k.val] := by
  match k with
  | 0 | 1 | 2 | 3 => rfl

/-- `PayloadSerialize` by index: the bytes of the high word, then those of the low word (41_payload.md R121). -/
theorem payloadSerialize_getElem_toNat (high low : Word) {k : Nat} (hk : k < 8) :
    (payloadSerialize high low)[k].toNat = if k < 4 then byteOf high k else byteOf low (k - 4) := by
  split
  case isTrue hhigh => rw [payloadSerialize_getElem_high high low ⟨k, hhigh⟩, encodeWord_getElem_toNat]
  case isFalse hhigh =>
    obtain ⟨j, rfl⟩ := Nat.exists_eq_add_of_le' (Nat.le_of_not_lt hhigh)
    rw [payloadSerialize_getElem_low high low ⟨j, by omega⟩, encodeWord_getElem_toNat, Nat.add_sub_cancel]

/-- Each half of the byte form is one encoded word, so the codec's inverse gives both words back (41_payload.md R136). -/
theorem payloadDeserialize_payloadSerialize (high low : Word) :
    payloadDeserialize (payloadSerialize high low) = (high, low) :=
  Prod.ext (decodeWord_encodeWord high) (decodeWord_encodeWord low)

/-! ## What the drive operations put on the ports -/

theorem driveR0R1_drivesWords (x y : Word) (s : State) : DrivesWords (driveR0R1 x y s).resp x y :=
  ⟨rfl, rfl, rfl, rfl, quiet_noBytes, quiet_noFlags⟩

theorem driveBout8_bout_of_lt (b : Bytes8) (s : State) {k : Nat} (hk : k < 8) :
    (driveBout8 b s).resp.bout[k] = b[k] := by
  match k with
  | 0 | 1 | 2 | 3 | 4 | 5 | 6 | 7 => rfl

theorem driveBout8_zeroBytesFrom (b : Bytes8) (s : State) : ZeroBytesFrom 8 (driveBout8 b s).resp.bout :=
  zeroBytesFrom_eight _ _ _ _ _ _ _ _

/-- `BOUT` after a serialized payload is driven: its eight bytes, then zeros (41_payload.md R134). -/
theorem driveBout8_payloadSerialize_toNat (high low : Word) (s : State) (k : Fin 16) :
    (driveBout8 (payloadSerialize high low) s).resp.bout[k.val].toNat =
      if k.val < 4 then byteOf high k.val else if k.val < 8 then byteOf low (k.val - 4) else 0 := by
  by_cases hk : k.val < 8
  · rw [driveBout8_bout_of_lt _ _ hk, payloadSerialize_getElem_toNat _ _ hk, if_pos hk]
  · rw [driveBout8_zeroBytesFrom _ _ k (Nat.le_of_not_lt hk), if_neg (by omega), if_neg hk]
    rfl

/-- The bytes of `BOUT[0..7]`, presented as `BIN`, are read back as they were driven. -/
theorem binBytes8_of_driveBout8 (b : Bytes8) (s : State) {v : State} (hbin : v.req.bin = (driveBout8 b s).resp.bout) :
    binBytes8 v = b := by
  apply Vector.ext
  intro k hk
  calc (binBytes8 v)[k] = v.req.bin[k] := by interval_cases k <;> rfl
    _ = b[k] := by simp only [hbin, driveBout8_bout_of_lt _ _ hk]

/-- PDES on the bytes that PSER drove reads the payload they serialize. -/
theorem exec_pdes_of_driveBout8 {high low : Word} {s v : State}
    (hbin : v.req.bin = (driveBout8 (payloadSerialize high low) s).resp.bout) :
    exec .pdes v = .next (driveR0R1 high low v) := by
  show execPdes v = _
  rw [execPdes, binBytes8_of_driveBout8 _ s hbin, payloadDeserialize_payloadSerialize]

/-! ## The obligations -/

/-- Settles O27: each constructor drives the pair of its payload's words. -/
theorem payloadConstructorResults : Obligations.PayloadConstructorResults := by
  refine ⟨?pempty, ?pbool, ?pi32, ?pu64, ?ppair, fun s barg => ⟨?_, ?_, ?_, ?_, ?_⟩⟩
  case pempty | pbool | pi32 | pu64 | ppair =>
    exact opSelects_of_decodeOp fun w hop => by simp [decodeOp, hop, bargOf]
  · exact ⟨_, rfl, respond_onlyResponseChanges _ s, driveR0R1_drivesWords _ _ s⟩
  · exact ⟨_, exec_pbool barg s, respond_onlyResponseChanges _ s, driveR0R1_drivesWords _ _ s⟩
  · exact ⟨_, s.req.a, rfl, respond_onlyResponseChanges _ s, driveR0R1_drivesWords _ _ s, rfl, rfl⟩
  · exact ⟨_, s.req.a, s.req.b, exec_pu64 s, respond_onlyResponseChanges _ s, driveR0R1_drivesWords _ _ s,
      halves_toNat s.req.a s.req.b⟩
  · exact ⟨_, rfl, respond_onlyResponseChanges _ s, driveR0R1_drivesWords _ _ s⟩

/-- Settles O28: each view drives the word, or for PASU64 the two words, that it shows of the payload. -/
theorem payloadViewResults : Obligations.PayloadViewResults := by
  refine ⟨?phigh, ?plow, ?pasu64, ?pasu32, ?pasi32, ?pasbool, fun s => ⟨?_, ?_, ?_, ?_, ?_, ?_⟩⟩
  case phigh | plow | pasu64 | pasu32 | pasi32 | pasbool =>
    exact opSelects_of_decodeOp fun w hop => by simp [decodeOp, hop]
  · exact ⟨_, rfl, respond_onlyResponseChanges _ s, driveR0_drivesWords _ s⟩
  · exact ⟨_, rfl, respond_onlyResponseChanges _ s, driveR0_drivesWords _ s⟩
  · exact ⟨_, s.req.a, s.req.b, exec_pasu64 s, respond_onlyResponseChanges _ s, driveR0R1_drivesWords _ _ s, rfl⟩
  · exact ⟨_, rfl, respond_onlyResponseChanges _ s, driveR0_drivesWords _ s⟩
  · exact ⟨_, s.req.b, rfl, respond_onlyResponseChanges _ s, driveR0_drivesWords _ s, word_toInt s.req.b⟩
  · exact ⟨_, exec_pasbool s, respond_onlyResponseChanges _ s, driveR0_drivesWords _ s⟩

/-- Settles O29: PSER drives `BOUT` with the byte form of (A, B). -/
theorem payloadSerializeResult : Obligations.PayloadSerializeResult := by
  refine ⟨opSelects_of_decodeOp fun w hop => by simp [decodeOp, hop], fun s => ?_⟩
  exact ⟨driveBout8 (payloadSerialize s.req.a s.req.b) s, rfl, respond_onlyResponseChanges _ s,
    driveBout8_payloadSerialize_toNat _ _ s, rfl, rfl, rfl, rfl, quiet_noFlags⟩

/-- Settles O30: PDES drives `R0` and `R1` with the decodings of `BIN[0..3]` and `BIN[4..7]`. -/
theorem payloadDeserializeResult : Obligations.PayloadDeserializeResult := by
  refine ⟨opSelects_of_decodeOp fun w hop => by simp [decodeOp, hop], fun s => ?_⟩
  exact ⟨_, _, _, rfl, respond_onlyResponseChanges _ s, driveR0R1_drivesWords _ _ s,
    decodeWord_toNat (binBytes4 s), decodeWord_toNat #v[s.req.bin[4], s.req.bin[5], s.req.bin[6], s.req.bin[7]]⟩

/-- Settles O31: the bytes that PSER drives are the byte form of (A, B), which PDES reads back. -/
theorem payloadSerializationRoundTrips : Obligations.PayloadSerializationRoundTrips := fun s _ =>
  ⟨driveBout8 (payloadSerialize s.req.a s.req.b) s, _, rfl, exec_pdes_of_driveBout8 (s := s) rfl,
    driveR0R1_drivesWords _ _ _⟩

end Sys2Proof.Machine

/-! Proofs of the family 42_command_type.md: the table's two directions, what a table lookup drives, the header word as a
sum of its fields, the rows of the default table, and the family's obligations. -/

namespace Sys2Proof.Machine

/-! ## The command table -/

/-- An entry is the pattern looked for where its number is that of header bits 11 to 4 (42_command_type.md R179). -/
theorem eq_headerCmd_iff_toNat (p : BitVec 8) (w : Word) : p = headerCmd w ↔ p.toNat = w.toNat / 16 % 256 := by
  rw [← BitVec.toNat_inj, headerCmd, extractLsb'_toNat_byte, show (16 : Nat) = 2 ^ 4 from rfl]

/-- With an injective table, the selector found for an entry is the entry's index. -/
theorem eq_ofNat_of_cmdSelector_cmdId {cfg : Config} (hc : cfg.cmdIdsDistinct = true) {sel : BitVec 5} {k : Fin 23}
    (h : cmdSelector cfg cfg.cmdId[k.val] = some sel) : sel = BitVec.ofNat 5 k.val :=
  Option.some_inj.1 (h.symm.trans (cmdSelector_cmdId hc k.val k.isLt))

theorem cmdId_defaults (k : Fin 23) : Config.defaults.cmdId[k.val] = BitVec.ofNat 8 k.val := by
  revert k
  decide

/-- In the default table the pattern of a recognized selector is its number (42_command_type.md R152). -/
theorem cmdPattern_of_defaults {cfg : Config} (hc : cfg.cmdId = Config.defaults.cmdId) {sel : BitVec 5}
    (hsel : sel.toNat ≤ 22) : cmdPattern cfg sel = sel.setWidth 8 := by
  simp only [cmdPattern_of_le cfg sel hsel, hc]
  exact (cmdId_defaults ⟨sel.toNat, by omega⟩).trans (BitVec.ofNat_toNat ..)

/-! ## What a table lookup drives -/

theorem driveLookup_drivesLookup_recognized (x : Word) (s : State) : DrivesLookup (driveLookup x true s).resp x true 0 :=
  ⟨rfl, rfl, rfl, rfl, quiet_noBytes, rfl, rfl, rfl⟩

theorem driveLookup_drivesLookup_unrecognized (x : Word) (s : State) :
    DrivesLookup (driveLookup x false s).resp x false 5 :=
  ⟨rfl, rfl, rfl, rfl, quiet_noBytes, rfl, rfl, rfl⟩

theorem exec_cmdenc_of_recognized {sel : BitVec 5} (h : sel.toNat ≤ 22) (s : State) :
    exec (.cmdenc sel) s = .next (driveLookup (s.cfg.cmdId[sel.toNat].setWidth 32) true s) := by
  rw [exec, execCmdenc, (recognized_iff sel).2 h, cmdPattern_of_le _ _ h]

theorem exec_cmdenc_of_unrecognized {sel : BitVec 5} (h : 22 < sel.toNat) (s : State) :
    exec (.cmdenc sel) s = .next (driveLookup (s.cfg.cmdId[22].setWidth 32) false s) := by
  have hrec : recognized sel = false := Bool.eq_false_iff.2 (mt (recognized_iff sel).1 (Nat.not_le.2 h))
  rw [exec, execCmdenc, hrec, cmdPattern_of_gt _ _ h]

theorem execCmddec_of_none {s : State} (h : cmdSelector s.cfg (headerCmd s.req.a) = none) :
    exec .cmddec s = .next (driveLookup 0 false s) := by
  simp only [exec, execCmddec, operandA, h]

/-! ## The header word as a sum -/

/-- The fields of a header word do not overlap, so joining them is adding them (30_encoding.md R90). -/
theorem headerWord_eq_add (cfg : Config) (sel : BitVec 5) (chan : BitVec 2) (isSet : Bool) :
    headerWord cfg sel chan isSet = cfg.prefixValue.setWidth 32 <<< 16 + (if isSet then 0x4000#32 else 0#32) +
      (cmdPattern cfg sel).setWidth 32 <<< 4 + chan.setWidth 32 := by
  have hset : (BitVec.ofBool isSet).setWidth 32 <<< 14 = if isSet then 0x4000#32 else 0#32 := by cases isSet <;> rfl
  rw [← hset, headerWord]
  generalize cmdPattern cfg sel = p
  generalize cfg.prefixValue = q
  rw [BitVec.add_eq_or_of_and_eq_zero (q.setWidth 32 <<< 16), BitVec.add_eq_or_of_and_eq_zero (_ ||| _),
    BitVec.add_eq_or_of_and_eq_zero (_ ||| _)]
  all_goals
    apply BitVec.eq_of_getLsbD_eq
    intro k hk
    interval_cases k <;> simp

/-! ## The rows of the default table -/

/-- A row of R155 to R177: a selector, its command, and the header of a get on channel 0 with the default constants. -/
abbrev CommandRow := BitVec 5 × (Bool → BitVec 2 → Instr) × Word

/-- The row's command is the one of its selector, and its header is 0xA55A beside the selector's number. -/
def CommandRow.Listed (p : CommandRow) : Prop :=
  (∀ isSet chan, headerCommand? p.1 isSet chan = some (p.2.1 isSet chan)) ∧
  p.2.2 = 0xA55A0000#32 + p.1.setWidth 32 <<< 4

/-- What R155 to R177 say of a row, for one state, set/get bit and channel. -/
def CommandRow.Builds (p : CommandRow) (s : State) (isSet : Bool) (chan : BitVec 2) : Prop :=
  ∃ t, exec (p.2.1 isSet chan) s = .next t ∧
    exec (.build chan isSet p.1) s = .next t ∧ headerCommand? p.1 isSet chan = some (p.2.1 isSet chan) ∧
    OnlyPacketAndResponseChange s t ∧ t.pkt.hdr.extractLsb' 4 8 = p.1.setWidth 8 ∧
    t.pkt.hdr = p.2.2 + (if isSet then 0x4000#32 else 0#32) + chan.setWidth 32 ∧
    t.pkt.plh = s.req.a ∧ t.pkt.pll = s.req.b ∧ t.pkt.pv = true ∧ t.pkt.pe = 0 ∧ MirrorsPacket t.resp t.pkt

theorem CommandRow.Listed.headerWord_eq {p : CommandRow} (hp : p.Listed) {cfg : Config}
    (hprefix : cfg.prefixValue = 0xA55A#16) (hpattern : cmdPattern cfg p.1 = p.1.setWidth 8) (isSet : Bool)
    (chan : BitVec 2) :
    headerWord cfg p.1 chan isSet = p.2.2 + (if isSet then 0x4000#32 else 0#32) + chan.setWidth 32 := by
  obtain ⟨-, hword⟩ := hp
  rw [headerWord_eq_add, hprefix, hpattern, hword, add_right_comm 0xA55A0000#32,
    BitVec.setWidth_setWidth (by decide)]
  rfl

/-- With the default `PREFIX_VALUE` and table, the command of a listed row builds the packet with the row's header. -/
theorem CommandRow.Listed.builds {p : CommandRow} (hp : p.Listed) {s : State}
    (hprefix : s.cfg.prefixValue = 0xA55A#16) (htable : s.cfg.cmdId = Config.defaults.cmdId) (isSet : Bool)
    (chan : BitVec 2) : p.Builds s isSet chan := by
  have ⟨hcommand, _⟩ := hp
  have hfields := headerFields?_of_headerCommand? (hcommand isSet chan)
  obtain ⟨hsel, -⟩ := headerCommand?_fields hfields
  have hpattern := cmdPattern_of_defaults htable hsel
  obtain ⟨hvalid, hcode⟩ := build_of_recognized hsel s.cfg chan isSet s.req.a s.req.b
  exact ⟨performBuild p.1 chan isSet s, exec_of_headerFields? hfields s, rfl, hcommand isSet chan, ⟨rfl, rfl, rfl⟩,
    (headerCmd_headerWord ..).trans hpattern, hp.headerWord_eq hprefix hpattern isSet chan, rfl, rfl, hvalid, hcode,
    packetResponse_mirrors _⟩

/-! ## The obligations -/

/-- Settles O32, by the two ranges of selectors. -/
theorem commandEncodeResult : Obligations.CommandEncodeResult := by
  refine ⟨opSelects_of_decodeOp fun w hop => by simp [decodeOp, hop, selOf], fun s sel => ⟨fun h => ?_, fun h => ?_⟩⟩
  · exact ⟨_, exec_cmdenc_of_recognized h s, respond_onlyResponseChanges _ s, driveLookup_drivesLookup_recognized _ s⟩
  · exact ⟨_, exec_cmdenc_of_unrecognized h s, respond_onlyResponseChanges _ s,
      driveLookup_drivesLookup_unrecognized _ s⟩

/-- Settles O33: the lookup finds a selector, whose entry is the pattern, or fails, and then no entry is. -/
theorem commandDecodeResult : Obligations.CommandDecodeResult := by
  refine ⟨opSelects_of_decodeOp fun w hop => by simp [decodeOp, hop], fun s hc => ?_⟩
  simp only [ne_eq, ← eq_headerCmd_iff_toNat]
  match hfound : cmdSelector s.cfg (headerCmd s.req.a) with
  | some sel =>
    refine ⟨_, execCmddec_of_some hfound, respond_onlyResponseChanges _ s, fun k hk => ?_, fun hnone => ?_⟩
    · rw [← hk] at hfound
      rw [eq_ofNat_of_cmdSelector_cmdId hc hfound, BitVec.setWidth_ofNat_of_le_of_lt (by decide) (by omega)]
      exact driveLookup_drivesLookup_recognized _ s
    · cases hfound.symm.trans (cmdSelector_eq_none.2 hnone)
  | none =>
    exact ⟨_, execCmddec_of_none hfound, respond_onlyResponseChanges _ s,
      fun k hk => absurd hk (cmdSelector_eq_none.1 hfound k), fun _ => driveLookup_drivesLookup_unrecognized _ s⟩

/-- Settles O34: the lookup inverts the table, and every unrecognized selector falls to entry 22. -/
theorem commandTableIsConsistent : Obligations.CommandTableIsConsistent := fun cfg hc sel =>
  ⟨cmdSelector_cmdPattern hc, fun h => (cmdPattern_of_gt cfg sel h).trans (cmdPattern_of_le cfg 22#5 le_rfl).symm⟩

/-- Settles O35: each of the twelve rows is listed, so its command builds its header. -/
theorem headerCommandsInitDeviceToReset : Obligations.HeaderCommandsInitDeviceToReset := by
  intro s hprefix htable p hp
  have hlisted : CommandRow.Listed p := by
    fin_cases hp <;> exact ⟨fun _ _ => rfl, rfl⟩
  exact hlisted.builds hprefix htable

/-- Settles O36: each of the eleven rows is listed, so its command builds its header. -/
theorem headerCommandsReferenceSourceToNop : Obligations.HeaderCommandsReferenceSourceToNop := by
  intro s hprefix htable p hp
  have hlisted : CommandRow.Listed p := by
    fin_cases hp <;> exact ⟨fun _ _ => rfl, rfl⟩
  exact hlisted.builds hprefix htable

end Sys2Proof.Machine

/-! Proofs of the family 43_checksum.md: the CRC register as a number, the CRC of messages that differ in one byte, the
frame's bytes under a bit flip, and the family's obligations. -/

namespace Sys2Proof.Machine

/-! ## The CRC register as a number -/

/-- The top bit, on which a shift branches, is 1 where the register's number is at least 2^15. -/
theorem crcBit_toNat (c : Half) : (crcBit c).toNat = crcShift c.toNat := by
  have htop : c.getLsbD 15 = decide (2 ^ 15 ≤ c.toNat) :=
    (BitVec.msb_eq_getLsbD_last c).symm.trans (BitVec.msb_eq_decide c)
  have hshift : (c <<< 1).toNat = 2 * c.toNat % 2 ^ 16 := by
    rw [BitVec.toNat_shiftLeft, Nat.shiftLeft_eq, mul_comm]
  simp only [crcBit, crcShift, htop, decide_eq_true_eq]
  split
  case isTrue => rw [BitVec.toNat_xor, hshift]; rfl
  case isFalse => omega

theorem crcByte_eq_iterate (c : Half) (m : Byte) : crcByte c m = crcBit^[8] (c ^^^ (m.setWidth 16 <<< 8)) := rfl

theorem byteInHighHalf_toNat (m : Byte) : (m.setWidth 16 <<< 8 : Half).toNat = m.toNat * 256 := by
  have := m.isLt
  rw [BitVec.toNat_shiftLeft, BitVec.toNat_setWidth_of_le (by decide), Nat.shiftLeft_eq]
  omega

theorem crcByte_toNat (c : Half) (m : Byte) : (crcByte c m).toNat = crcShift^[8] (c.toNat ^^^ (m.toNat * 256)) := by
  have hbits : Function.Semiconj BitVec.toNat crcBit crcShift := crcBit_toNat
  rw [crcByte_eq_iterate, hbits.iterate_right 8, BitVec.toNat_xor, byteInHighHalf_toNat]

/-! ## The CRC of messages that differ in one byte -/

/-- The polynomial is odd, so the bit that a shift moves out is the lowest bit of its result. -/
theorem crcBit_getLsbD_zero (c : Half) : (crcBit c).getLsbD 0 = c.getLsbD 15 := by
  unfold crcBit
  split <;> simp_all

theorem shiftLeft_one_getLsbD_succ (c : Half) {k : Nat} (hk : k < 15) : (c <<< 1).getLsbD (k + 1) = c.getLsbD k := by
  rw [BitVec.getLsbD_shiftLeft, Nat.add_sub_cancel, decide_eq_true (by omega), decide_eq_false (by omega)]
  rfl

/-- A shift loses nothing: its lowest bit tells whether the polynomial was combined, and the rest is the register. -/
theorem crcBit_injective : Function.Injective crcBit := by
  intro c d h
  have htop : c.getLsbD 15 = d.getLsbD 15 := by rw [← crcBit_getLsbD_zero, h, crcBit_getLsbD_zero]
  have hshift : c <<< 1 = d <<< 1 := by
    simp only [crcBit, htop] at h
    split at h
    · exact (BitVec.xor_left_inj _).1 h
    · exact h
  apply BitVec.eq_of_getLsbD_eq
  intro k hk
  obtain hlow | rfl : k < 15 ∨ k = 15 := by omega
  · rw [← shiftLeft_one_getLsbD_succ c hlow, hshift, shiftLeft_one_getLsbD_succ d hlow]
  · exact htop

theorem crcByte_left_injective (m : Byte) : Function.Injective (crcByte · m) := fun _ _ h =>
  (BitVec.xor_left_inj _).1 (crcBit_injective.iterate 8 h)

theorem crcByte_right_injective (c : Half) : Function.Injective (crcByte c) := by
  intro x y h
  have hhigh := (BitVec.xor_right_inj c).1 (crcBit_injective.iterate 8 h)
  have := congrArg BitVec.toNat hhigh
  simp only [byteInHighHalf_toNat] at this
  exact BitVec.eq_of_toNat_eq (by omega)

theorem foldl_crcByte_injective (m : List Byte) : Function.Injective (m.foldl crcByte ·) := by
  induction m with
  | nil => exact fun _ _ h => h
  | cons x m ih => exact fun _ _ h => crcByte_left_injective x (ih h)

/-- Byte strings of one length that differ at exactly one index. -/
inductive OneByteDiffers : List Byte → List Byte → Prop
  | here {x y : Byte} (m : List Byte) (h : x ≠ y) : OneByteDiffers (x :: m) (y :: m)
  | later (x : Byte) {m m' : List Byte} (h : OneByteDiffers m m') : OneByteDiffers (x :: m) (x :: m')

theorem OneByteDiffers.append_right {m m' : List Byte} (h : OneByteDiffers m m') (q : List Byte) :
    OneByteDiffers (m ++ q) (m' ++ q) := by
  induction h with
  | here m h => exact .here (m ++ q) h
  | later x _ ih => exact .later x ih

theorem OneByteDiffers.append_left {m m' : List Byte} (h : OneByteDiffers m m') (p : List Byte) :
    OneByteDiffers (p ++ m) (p ++ m') := by
  induction p with
  | nil => exact h
  | cons x p ih => exact .later x ih

/-- From one register value the two strings lead to two: they part at the differing byte and never meet again. -/
theorem OneByteDiffers.foldl_crcByte_ne {m m' : List Byte} (h : OneByteDiffers m m') (c : Half) :
    m.foldl crcByte c ≠ m'.foldl crcByte c := by
  induction h generalizing c with
  | here m hxy => exact fun he => hxy (crcByte_right_injective c (foldl_crcByte_injective m he))
  | later x _ ih => exact ih (crcByte c x)

theorem OneByteDiffers.crc16_ne {m m' : List Byte} (h : OneByteDiffers m m') : crc16 m ≠ crc16 m' :=
  h.foldl_crcByte_ne 0xFFFF#16

/-! ## The frame's bytes under a bit flip -/

theorem extractLsb'_xor_bitAt_of_mem (w : Word) {j k : Nat} (hj : j < 32) (hkj : k ≤ j) (hjk : j < k + 8) :
    (w ^^^ bitAt j).extractLsb' k 8 ≠ w.extractLsb' k 8 := by
  intro h
  have hbit := congrArg (·.getLsbD (j - k)) h
  have hlt : j - k < 8 := by omega
  simp [bitAt, hlt, hj, Nat.add_sub_cancel' hkj] at hbit

theorem extractLsb'_xor_bitAt_of_not_mem (w : Word) {j k : Nat} (h : j < k ∨ k + 8 ≤ j) :
    (w ^^^ bitAt j).extractLsb' k 8 = w.extractLsb' k 8 := by
  apply BitVec.eq_of_getLsbD_eq
  intro i hi
  have hne : j ≠ k + i := by omega
  simp [bitAt, hi, hne]

/-- A flipped bit lies in exactly one of the word's four bytes. -/
theorem encodeWord_xor_bitAt (w : Word) {j : Nat} (hj : j < 32) :
    OneByteDiffers (encodeWord (w ^^^ bitAt j)).toList (encodeWord w).toList := by
  have hother {k : Nat} (h : j < k ∨ k + 8 ≤ j) := extractLsb'_xor_bitAt_of_not_mem w h
  have hflip {k : Nat} (hkj : k ≤ j) (hjk : j < k + 8) := extractLsb'_xor_bitAt_of_mem w hj hkj hjk
  rw [encodeWord_toList, encodeWord_toList]
  obtain h | h | h | h : 24 ≤ j ∨ 16 ≤ j ∧ j < 24 ∨ 8 ≤ j ∧ j < 16 ∨ j < 8 := by omega
  · rw [hother (k := 16) (by omega), hother (k := 8) (by omega), hother (k := 0) (by omega)]
    exact .here _ (hflip (by omega) (by omega))
  · rw [hother (k := 24) (by omega), hother (k := 8) (by omega), hother (k := 0) (by omega)]
    exact .later _ (.here _ (hflip (by omega) (by omega)))
  · rw [hother (k := 24) (by omega), hother (k := 16) (by omega), hother (k := 0) (by omega)]
    exact .later _ (.later _ (.here _ (hflip (by omega) (by omega))))
  · rw [hother (k := 24) (by omega), hother (k := 16) (by omega), hother (k := 8) (by omega)]
    exact .later _ (.later _ (.later _ (.here _ (hflip (by omega) (by omega)))))

/-- The mask that clears the checksum field lets a flip of the suffix through (43_checksum.md R193). -/
theorem xor_bitAt_and_suffixMask (f : Word) {j : Nat} (hj : j < 32) (h : 16 ≤ j) :
    (f ^^^ bitAt j) &&& 0xFFFF0000#32 = (f &&& 0xFFFF0000#32) ^^^ bitAt j := by
  have hbit : (0xFFFF0000#32).getLsbD j = true := by interval_cases j <;> rfl
  have hmask : bitAt j &&& 0xFFFF0000#32 = bitAt j := by rw [bitAt, BitVec.twoPow_and, if_pos hbit]
  calc (f ^^^ bitAt j) &&& 0xFFFF0000#32 = (f &&& 0xFFFF0000#32) ^^^ (bitAt j &&& 0xFFFF0000#32) :=
        BitVec.eq_of_getLsbD_eq fun k _ => by
          simp only [BitVec.getLsbD_and, BitVec.getLsbD_xor, Bool.and_xor_distrib_right]
    _ = (f &&& 0xFFFF0000#32) ^^^ bitAt j := by rw [hmask]

/-- The default CRC detects every flip of a covered bit: it changes one byte of the message. -/
theorem detectsSingleFlips_of_crc16 {cfg : Config} (hc : cfg.checksumFn = .crc16) : DetectsSingleFlips cfg := by
  intro h hi lo f j
  have hflip (w : Word) := encodeWord_xor_bitAt w j.isLt
  simp only [checksum_crc16 hc]
  refine ⟨?header, ?high, ?low, fun hj => ?footer⟩ <;> apply OneByteDiffers.crc16_ne
  case header => exact (((hflip h).append_right _).append_right _).append_right _
  case high => exact (((hflip hi).append_left _).append_right _).append_right _
  case low => exact ((hflip lo).append_left _).append_right _
  case footer =>
    rw [xor_bitAt_and_suffixMask f j.isLt hj]
    exact (hflip _).append_left _

/-! ## The bytes of the message -/

theorem encodeWord_getElem_eq_byteOf (w : Word) (k : Fin 4) :
    (encodeWord w)[k.val] = BitVec.ofNat 8 (byteOf w k.val) := by
  rw [← encodeWord_getElem_toNat, BitVec.ofNat_toNat, BitVec.setWidth_eq]

theorem encodeWord_toList_byteOf (w : Word) :
    (encodeWord w).toList = (List.range 4).map fun k => BitVec.ofNat 8 (byteOf w k) := by
  have hbyte := encodeWord_getElem_eq_byteOf w
  exact congrArg₂ _ (hbyte 0) (congrArg₂ _ (hbyte 1) (congrArg₂ _ (hbyte 2) (congrArg₂ _ (hbyte 3) rfl)))

/-- The footer enters the message with its suffix alone (43_checksum.md R191). -/
theorem encodeWord_and_suffixMask_toList (f : Word) : (encodeWord (f &&& 0xFFFF0000#32)).toList =
    [BitVec.ofNat 8 (byteOf f 0), BitVec.ofNat 8 (byteOf f 1), 0, 0] := by
  have hbyte := encodeWord_getElem_eq_byteOf f
  have h0 : (f &&& 0xFFFF0000#32).extractLsb' 24 8 = BitVec.ofNat 8 (byteOf f 0) :=
    BitVec.extractLsb'_and.trans (BitVec.and_allOnes.trans (hbyte 0))
  have h1 : (f &&& 0xFFFF0000#32).extractLsb' 16 8 = BitVec.ofNat 8 (byteOf f 1) :=
    BitVec.extractLsb'_and.trans (BitVec.and_allOnes.trans (hbyte 1))
  have h2 : (f &&& 0xFFFF0000#32).extractLsb' 8 8 = 0 := BitVec.extractLsb'_and.trans BitVec.and_zero
  have h3 : (f &&& 0xFFFF0000#32).extractLsb' 0 8 = 0 := BitVec.extractLsb'_and.trans BitVec.and_zero
  rw [encodeWord_toList, h0, h1, h2, h3]

/-- The checksum does not depend on the footer's low half (43_checksum.md R190, R196). -/
theorem checksum_replace_cksField (cfg : Config) (h hi lo f : Word) (low : Half) :
    checksum cfg h hi lo (f.extractLsb' 16 16 ++ low) = checksum cfg h hi lo f := by
  rw [checksum_append, ← and_suffixMask, checksum]

/-! ## The obligations -/

/-- Settles O40: a covered bit flip changes one byte of the CRC's message, and the default table is injective. -/
theorem defaultChecksumDetectsSingleFlips : Obligations.DefaultChecksumDetectsSingleFlips :=
  ⟨fun _ hc => detectsSingleFlips_of_crc16 hc, by decide, detectsSingleFlips_of_crc16 rfl⟩

/-- Settles O41: CKSUM drives `R0` with the checksum, which the low half of D does not enter. -/
theorem checksumOperationResult : Obligations.ChecksumOperationResult := by
  refine ⟨opSelects_of_decodeOp fun w hop => by simp [decodeOp, hop], fun s => ?_⟩
  refine ⟨_, _, rfl, respond_onlyResponseChanges _ s, driveR0_drivesWords _ s,
    BitVec.toNat_setWidth_of_le (by decide), fun low => ?_⟩
  simp only [exec, execCksum, operandA, operandB, operandC, operandD, checksum_replace_cksField]
  rfl

/-- Settles O54: the message byte by byte, then the CRC's recurrence on numbers. -/
theorem defaultChecksumIsTheCrcOfTheFrameBytes : Obligations.DefaultChecksumIsTheCrcOfTheFrameBytes := by
  refine ⟨fun cfg h hi lo f hc => ?_, rfl, fun m b => ?_⟩
  · rw [checksum_crc16 hc, checksumMessage, encodeWord_and_suffixMask_toList, encodeWord_toList_byteOf,
      encodeWord_toList_byteOf, encodeWord_toList_byteOf]
    rfl
  · rw [crc16_append, crcByte_toNat]

/-- Settles O38: the mask of the footer keeps its suffix and clears the rest. -/
theorem checksumIgnoresItsOwnField : Obligations.ChecksumIgnoresItsOwnField := checksum_append

/-- Settles O39, by evaluating the CRC on the two strings. -/
theorem defaultCrcCheckValues : Obligations.DefaultCrcCheckValues := by
  unfold Obligations.DefaultCrcCheckValues
  decide +kernel

end Sys2Proof.Machine

/-! Proofs of the family 44_packet.md: what PARSE answers check by check, the words of a frame under a bit flip, the frame of
a build there and back, and the family's obligations. -/

namespace Sys2Proof.Machine

/-! ## What PARSE answers -/

/-- `Parse`'s validity and error: the first failing check in the order checksum, prefix, suffix, ack (44_packet.md R212,
R213). -/
theorem parse_pv_pe (cfg : Config) (h hi lo f : Word) :
    ((parse cfg h hi lo f).pv, (parse cfg h hi lo f).pe) =
      (if checksum cfg h hi lo f ≠ f.extractLsb' 0 16 then (false, 1#3)
       else if h.extractLsb' 16 16 ≠ cfg.prefixValue then (false, 2#3)
       else if f.extractLsb' 16 16 ≠ cfg.suffixValue then (false, 2#3)
       else if h.getLsbD 15 = true then (false, 3#3)
       else (true, 0#3)) := by
  simp only [parse, classify, carriesPrefix, carriesSuffix, acknowledged, headerAck, cksField, beq_eq_false_iff_ne,
    Bool.not_eq_false']
  split_ifs <;> rfl

/-- A packet that parses valid holds the received words and no error. -/
theorem parse_of_pv {cfg : Config} {h hi lo f : Word} (hpv : (parse cfg h hi lo f).pv = true) :
    parse cfg h hi lo f = { hdr := h, plh := hi, pll := lo, ftr := f, pv := true, pe := 0 } := by
  have hpe := (parse_legal cfg h hi lo f).1 hpv
  calc parse cfg h hi lo f
      = ⟨h, hi, lo, f, (parse cfg h hi lo f).pv, (parse cfg h hi lo f).pe⟩ := rfl
    _ = ⟨h, hi, lo, f, true, 0⟩ := by rw [hpv, hpe]

/-- A checksum mismatch is found first, whatever the other checks say. -/
theorem parse_of_checksum_ne {cfg : Config} {h hi lo f : Word} (hne : checksum cfg h hi lo f ≠ cksField f) :
    (parse cfg h hi lo f).pv = false ∧ (parse cfg h hi lo f).pe = 1 := by
  simp [parse, classify, hne, errorCode]

/-! ## The words of a frame -/

/-- Word `n` of a frame: header, payload high, payload low, footer (44_packet.md R215). -/
def frameWord (b : Bytes16) (n : Fin 4) : Word :=
  decodeWord #v[b[4 * n.val], b[4 * n.val + 1], b[4 * n.val + 2], b[4 * n.val + 3]]

theorem frameDeserialize_eq_parse (cfg : Config) (b : Bytes16) :
    frameDeserialize cfg b = parse cfg (frameWord b 0) (frameWord b 1) (frameWord b 2) (frameWord b 3) := rfl

/-- Word `n` of a frame is the number that its four bytes stand for. -/
theorem frameWord_toNat (b : Bytes16) (n : Fin 4) : (frameWord b n).toNat =
    wordValue b[4 * n.val] b[4 * n.val + 1] b[4 * n.val + 2] b[4 * n.val + 3] := decodeWord_toNat _

/-- Bit `i` of a decoded word, counted from the least significant byte, which stands last. -/
theorem decodeWord_getLsbD (b : Bytes4) {i : Nat} (hi : i < 32) :
    (decodeWord b).getLsbD i = b[3 - i / 8].getLsbD (i % 8) := by
  simp only [decodeWord, BitVec.getLsbD_append]
  interval_cases i <;> rfl

theorem frameWord_getLsbD (b : Bytes16) (n : Fin 4) {i : Nat} (hi : i < 32) :
    (frameWord b n).getLsbD i = b[4 * n.val + (3 - i / 8)].getLsbD (i % 8) := by
  rw [frameWord, decodeWord_getLsbD _ hi]
  obtain h | h | h | h : i / 8 = 0 ∨ i / 8 = 1 ∨ i / 8 = 2 ∨ i / 8 = 3 := by omega
  all_goals simp [h]

/-- The frame with bit `j` of byte `k` inverted. -/
def flipBit (b : Bytes16) (k : Fin 16) (j : Fin 8) : Bytes16 := b.set k.val (b[k.val] ^^^ BitVec.twoPow 8 j.val)

/-- An inverted bit of a frame is one inverted bit of one of its four words, the one that its byte lies in. -/
theorem frameWord_flipBit (b : Bytes16) (k : Fin 16) (j : Fin 8) (n : Fin 4) :
    frameWord (flipBit b k j) n =
      if k.val / 4 = n.val then frameWord b n ^^^ bitAt (8 * (3 - k.val % 4) + j.val) else frameWord b n := by
  apply BitVec.eq_of_getLsbD_eq
  intro i hi
  have hplace : k.val = 4 * n.val + (3 - i / 8) ∧ j.val = i % 8 ↔
      k.val / 4 = n.val ∧ 8 * (3 - k.val % 4) + j.val = i := by omega
  have hmod : i % 8 < 8 := Nat.mod_lt _ (by decide)
  have hflip : (frameWord (flipBit b k j) n).getLsbD i =
      ((frameWord b n).getLsbD i ^^ decide (k.val = 4 * n.val + (3 - i / 8) ∧ j.val = i % 8)) := by
    rw [frameWord_getLsbD _ _ hi, frameWord_getLsbD _ _ hi, flipBit, Vector.getElem_set]
    split_ifs with hk <;> simp [hk, hmod, eq_comm]
  rw [hflip]
  simp only [hplace]
  split_ifs with hk <;> simp [hk, bitAt, hi, eq_comm]

/-! ## A frame with one bit inverted -/

theorem extractLsb'_xor_bitAt_eq (w : Word) {m k : Nat} (h : m < k ∨ k + 16 ≤ m) :
    (w ^^^ bitAt m).extractLsb' k 16 = w.extractLsb' k 16 := by
  apply BitVec.eq_of_getLsbD_eq
  intro i hi
  have hne : m ≠ k + i := by omega
  simp [bitAt, hi, hne]

/-- The checksum does not see a flip of the footer's checksum field, and the field does. -/
theorem xor_bitAt_cksField (cfg : Config) (h hi lo f : Word) {m : Nat} (hm : m < 16) :
    checksum cfg h hi lo (f ^^^ bitAt m) = checksum cfg h hi lo f ∧ cksField (f ^^^ bitAt m) ≠ cksField f := by
  constructor
  · rw [checksum, checksum, and_suffixMask, and_suffixMask, extractLsb'_xor_bitAt_eq f (.inl hm)]
  · intro heq
    have hbit := congrArg (·.getLsbD m) heq
    have hlt : m < 32 := by omega
    simp [cksField, bitAt, hm, hlt] at hbit

/-- Where the checksum matched the footer's checksum field, inverting one bit makes them differ: a covered bit changes the
checksum alone, a bit of the field the field alone (44_packet.md R226). -/
theorem checksum_ne_cksField_of_flip {cfg : Config} {h hi lo f : Word} (hcks : checksum cfg h hi lo f = cksField f)
    (hdetect : DetectsSingleFlipsAt cfg h hi lo f) {m : Nat} (hm : m < 32) :
    checksum cfg (h ^^^ bitAt m) hi lo f ≠ cksField f ∧ checksum cfg h (hi ^^^ bitAt m) lo f ≠ cksField f ∧
    checksum cfg h hi (lo ^^^ bitAt m) f ≠ cksField f ∧
    checksum cfg h hi lo (f ^^^ bitAt m) ≠ cksField (f ^^^ bitAt m) := by
  obtain ⟨hh, hhi, hlo, hf⟩ := hdetect ⟨m, hm⟩
  rw [hcks] at hh hhi hlo hf
  refine ⟨hh, hhi, hlo, ?_⟩
  obtain hfield | hsuffix := Nat.lt_or_ge m 16
  · obtain ⟨hkept, hchanged⟩ := xor_bitAt_cksField cfg h hi lo f hfield
    rw [hkept, hcks]
    exact hchanged.symm
  · have hkept : cksField (f ^^^ bitAt m) = cksField f := extractLsb'_xor_bitAt_eq f (.inr hsuffix)
    rw [hkept]
    exact hf hsuffix

/-- FDES classifies a valid frame with one bit inverted as ChecksumFailure. -/
theorem frameDeserialize_flipBit {cfg : Config} {b : Bytes16} (hvalid : (frameDeserialize cfg b).pv = true)
    (hdetect : DetectsSingleFlipsAt cfg (frameWord b 0) (frameWord b 1) (frameWord b 2) (frameWord b 3))
    (k : Fin 16) (j : Fin 8) :
    (frameDeserialize cfg (flipBit b k j)).pv = false ∧ (frameDeserialize cfg (flipBit b k j)).pe = 1 := by
  rw [frameDeserialize_eq_parse] at hvalid ⊢
  obtain ⟨hcks, -⟩ := (parse_pv_iff ..).1 hvalid
  have hm : 8 * (3 - k.val % 4) + j.val < 32 := by omega
  obtain ⟨hh, hhi, hlo, hf⟩ := checksum_ne_cksField_of_flip hcks hdetect hm
  apply parse_of_checksum_ne
  simp only [frameWord_flipBit]
  obtain hk | hk | hk | hk : k.val / 4 = 0 ∨ k.val / 4 = 1 ∨ k.val / 4 = 2 ∨ k.val / 4 = 3 := by omega
  · simpa [hk] using hh
  · simpa [hk] using hhi
  · simpa [hk] using hlo
  · simpa [hk] using hf

/-! ## The frame of a build -/

/-- FDES reads back the four words that FSER wrote and classifies them as PARSE does (44_packet.md R214, R215). -/
theorem frameDeserialize_frameSerialize (cfg : Config) (p : Packet) :
    frameDeserialize cfg (frameSerialize p) = parse cfg p.hdr p.plh p.pll p.ftr := by
  rw [← decodeWord_encodeWord p.hdr, ← decodeWord_encodeWord p.plh, ← decodeWord_encodeWord p.pll,
    ← decodeWord_encodeWord p.ftr]
  rfl

/-- A build passes the checksum check: its footer carries the checksum of its own words (44_packet.md R211). -/
theorem checksum_footerWord (cfg : Config) (h hi lo : Word) :
    checksum cfg h hi lo (footerWord cfg h hi lo) = cksField (footerWord cfg h hi lo) := by
  obtain ⟨hsuffix, hcks⟩ := footerWord_fields cfg h hi lo
  rw [cksField, hcks, ← hsuffix, checksum_replace_cksField]

/-- The frame of a build parses valid to the packet that was built, whatever its selector: it passes the four checks
(44_packet.md R225, R227). -/
theorem frameDeserialize_frameSerialize_build (cfg : Config) (sel : BitVec 5) (chan : BitVec 2) (isSet : Bool)
    (hi lo : Word) : frameDeserialize cfg (frameSerialize (build cfg sel chan isSet hi lo)) =
      { build cfg sel chan isSet hi lo with pv := true, pe := 0 } := by
  rw [frameDeserialize_frameSerialize]
  obtain ⟨hprefix, hack, -⟩ := headerWord_fields cfg sel chan isSet
  obtain ⟨hsuffix, -⟩ := footerWord_fields cfg (headerWord cfg sel chan isSet) hi lo
  have hpv : (parse cfg (headerWord cfg sel chan isSet) hi lo
      (footerWord cfg (headerWord cfg sel chan isSet) hi lo)).pv = true :=
    (parse_pv_iff ..).2 ⟨checksum_footerWord .., beq_iff_eq.2 hprefix, beq_iff_eq.2 hsuffix,
      congrArg (!·) hack⟩
  exact parse_of_pv hpv

/-- An unrecognized selector is framed with Nop's pattern (42_command_type.md R153), so the build differs from that of Nop
in its classification alone. -/
theorem build_of_unrecognized_eq {sel : BitVec 5} (h : 22 < sel.toNat) (cfg : Config) (chan : BitVec 2) (isSet : Bool)
    (hi lo : Word) :
    build cfg sel chan isSet hi lo = { build cfg 22#5 chan isSet hi lo with pv := false, pe := 5 } := by
  obtain ⟨hpv, hpe⟩ := build_of_unrecognized h cfg chan isSet hi lo
  have hpattern : cmdPattern cfg sel = cmdPattern cfg 22#5 := cmdPattern_of_gt cfg sel h
  have hheader : headerWord cfg sel chan isSet = headerWord cfg 22#5 chan isSet := by
    rw [headerWord, hpattern, headerWord]
  rw [← hpv, ← hpe]
  simp only [build, hheader]

/-- `valid` and `err` are not serialized (44_packet.md R214). -/
theorem frameSerialize_withClassification (p : Packet) (pv : Bool) (pe : BitVec 3) :
    frameSerialize { p with pv := pv, pe := pe } = frameSerialize p := rfl

theorem frameSerialize_build_of_unrecognized {sel : BitVec 5} (h : 22 < sel.toNat) (cfg : Config) (chan : BitVec 2)
    (isSet : Bool) (hi lo : Word) :
    frameSerialize (build cfg sel chan isSet hi lo) = frameSerialize (build cfg 22#5 chan isSet hi lo) := by
  rw [build_of_unrecognized_eq h, frameSerialize_withClassification]

/-! ## The bytes of a frame -/

theorem encodeWord_getElem_toNat_of_eq (w : Word) {i j : Nat} (hi : i < 4) (hij : i = j) :
    (encodeWord w)[i].toNat = byteOf w j := hij ▸ encodeWord_getElem_toNat w ⟨i, hi⟩

/-- `FrameSerialize` by index: byte `k` is byte `k mod 4` of word `k div 4` (44_packet.md R214, 20_memory.md R63). -/
theorem frameSerialize_getElem_toNat (p : Packet) (k : Fin 16) : (frameSerialize p)[k.val].toNat =
    byteOf (if k.val < 4 then p.hdr else if k.val < 8 then p.plh else if k.val < 12 then p.pll else p.ftr)
      (k.val % 4) := by
  rw [← Vector.getElem_toList (by simp)]
  simp only [frameSerialize_toList, List.getElem_append, Vector.getElem_toList, List.length_append,
    Vector.length_toList, Nat.reduceAdd]
  obtain hk | hk | hk | hk : k.val / 4 = 0 ∨ k.val / 4 = 1 ∨ k.val / 4 = 2 ∨ k.val / 4 = 3 := by omega
  all_goals
    simp (disch := omega) only [dif_pos, dif_neg, if_pos, if_neg]
    exact encodeWord_getElem_toNat_of_eq _ _ (by omega)

/-! ## The obligations -/

/-- Settles O43: PARSE writes the packet of the four ports, and the chain of checks gives its validity and error. -/
theorem parseResult : Obligations.ParseResult := by
  refine ⟨opSelects_of_decodeOp fun w hop => by simp [decodeOp, hop], fun s => ?_⟩
  exact ⟨_, rfl, ⟨rfl, rfl, rfl⟩, rfl, rfl, rfl, rfl, parse_pv_pe s.cfg s.req.a s.req.b s.req.c s.req.d,
    packetResponse_mirrors _⟩

/-- Settles O45: FSER drives `BOUT` with the frame of `PKT`. -/
theorem frameSerializeResult : Obligations.FrameSerializeResult := by
  refine ⟨opSelects_of_decodeOp fun w hop => by simp [decodeOp, hop], fun s => ?_⟩
  exact ⟨_, rfl, respond_onlyResponseChanges _ s, frameSerialize_getElem_toNat s.pkt, rfl, rfl, rfl, rfl, rfl, rfl,
    rfl⟩

/-- Settles O46: the four words are the ones that FDES decodes from `BIN` and parses. -/
theorem frameDeserializeResult : Obligations.FrameDeserializeResult := by
  refine ⟨opSelects_of_decodeOp fun w hop => by simp [decodeOp, hop], fun s h hi lo f hh hhi hlo hf => ?_⟩
  obtain rfl : h = frameWord s.req.bin 0 := BitVec.eq_of_toNat_eq (hh.trans (frameWord_toNat _ 0).symm)
  obtain rfl : hi = frameWord s.req.bin 1 := BitVec.eq_of_toNat_eq (hhi.trans (frameWord_toNat _ 1).symm)
  obtain rfl : lo = frameWord s.req.bin 2 := BitVec.eq_of_toNat_eq (hlo.trans (frameWord_toNat _ 2).symm)
  obtain rfl : f = frameWord s.req.bin 3 := BitVec.eq_of_toNat_eq (hf.trans (frameWord_toNat _ 3).symm)
  exact ⟨_, _, rfl, ⟨rfl, rfl, rfl⟩, rfl, rfl, rfl, packetResponse_mirrors _⟩

/-- Settles O49: the frame of a build parses valid to the built packet, which is itself valid for a recognized
selector. -/
theorem ownFramesParseValid : Obligations.OwnFramesParseValid := by
  intro s chan isSet sel hsel
  obtain ⟨hpv, hpe⟩ := build_of_recognized hsel s.cfg chan isSet s.req.a s.req.b
  have hback : frameDeserialize s.cfg (frameSerialize (build s.cfg sel chan isSet s.req.a s.req.b)) =
      build s.cfg sel chan isSet s.req.a s.req.b := by
    rw [frameDeserialize_frameSerialize_build, ← hpv, ← hpe]
  exact ⟨performBuild sel chan isSet s, _, _, rfl, rfl, rfl, hback, (congrArg Packet.pv hback).trans hpv,
    (congrArg Packet.pe hback).trans hpe⟩

/-- Settles O50: FDES decodes a frame in which one word differs in one bit, and the checksum check is the first to see
it. -/
theorem singleBitCorruptionIsCaught : Obligations.SingleBitCorruptionIsCaught := by
  intro s t k j ht hvalid hdetect
  cases ht
  obtain ⟨hpv, hpe⟩ := frameDeserialize_flipBit hvalid hdetect k j
  exact ⟨_, rfl, hpv, hpe, hpv, hpe⟩

/-- Settles O51: the build of an unrecognized selector is invalid, its words are those of Nop, and its frame parses
valid. -/
theorem unrecognizedBuildFramesAsNop : Obligations.UnrecognizedBuildFramesAsNop := by
  intro s chan isSet sel hsel
  have hpkt := frameDeserialize_frameSerialize_build s.cfg sel chan isSet s.req.a s.req.b
  obtain ⟨hpv, hpe⟩ := build_of_unrecognized hsel s.cfg chan isSet s.req.a s.req.b
  exact ⟨performBuild sel chan isSet s, _, performBuild 22#5 chan isSet s, _, _, rfl, rfl, rfl, rfl, rfl, hpv, hpe,
    frameSerialize_build_of_unrecognized hsel .., congrArg Packet.pv hpkt, congrArg Packet.pe hpkt⟩

/-- Settles O47: FAIL writes the packet that the reset state holds. -/
theorem failResult : Obligations.FailResult := by
  refine ⟨opSelects_of_decodeOp fun w hop => by simp [decodeOp, hop], fun s => ?_⟩
  exact ⟨writePacket failedPacket s, rfl, ⟨rfl, rfl, rfl⟩, rfl, rfl, rfl, rfl, rfl, rfl, quiet_noBytes, rfl, rfl, rfl⟩

/-- Settles O48: each of the three drives its part of `PKT` and leaves the other outputs quiet. -/
theorem packetReadResults : Obligations.PacketReadResults := by
  refine ⟨?extract, ?pktrd, ?idle, fun s => ⟨?_, ?_, ?_⟩⟩
  case extract | pktrd | idle => exact opSelects_of_decodeOp fun w hop => by simp [decodeOp, hop]
  · exact ⟨_, rfl, respond_onlyResponseChanges _ s, rfl, rfl, rfl, rfl, quiet_noBytes, rfl, rfl, rfl⟩
  · exact ⟨_, rfl, respond_onlyResponseChanges _ s, packetResponse_mirrors s.pkt⟩
  · exact ⟨_, rfl, respond_onlyResponseChanges _ s, rfl, rfl, rfl, rfl, quiet_noBytes, quiet_noFlags⟩

end Sys2Proof.Machine

/-! Proofs of the family 45_field_extract.md: a field of a word as a number and bit by bit, the fields that the four
extractors drive, and the family's obligations. -/

namespace Sys2Proof.Machine

/-! ## A field of a word -/

/-- The `n` bits of `w` from bit `k` on, zero-extended (45_field_extract.md R251 to R254). -/
def zextField (w : Word) (k n : Nat) : Word := (w.extractLsb' k n).setWidth 32

theorem zextField_toNat (w : Word) (k : Nat) {n : Nat} (hn : n ≤ 32) :
    (zextField w k n).toNat = w.toNat / 2 ^ k % 2 ^ n := by
  rw [zextField, BitVec.toNat_setWidth_of_le hn, BitVec.extractLsb'_toNat, Nat.shiftRight_eq_div_pow]

/-- A field that starts at bit 0 is a remainder. -/
theorem zextField_zero_toNat (w : Word) {n : Nat} (hn : n ≤ 32) : (zextField w 0 n).toNat = w.toNat % 2 ^ n := by
  rw [zextField_toNat w 0 hn, pow_zero, Nat.div_one]

/-- A field that reaches the top bit is a quotient. -/
theorem zextField_top_toNat (w : Word) {k n : Nat} (hkn : k + n = 32) :
    (zextField w k n).toNat = w.toNat / 2 ^ k := by
  have hlt : w.toNat / 2 ^ k < 2 ^ n := Nat.div_lt_of_lt_mul (by rw [← pow_add, hkn]; exact w.isLt)
  rw [zextField_toNat w k (by omega), Nat.mod_eq_of_lt hlt]

/-- A field put back at its place holds the bits of its range and no others. -/
theorem zextField_shiftLeft_getLsbD (w : Word) {k n : Nat} (hkn : k + n ≤ 32) (i : Nat) :
    (zextField w k n <<< k).getLsbD i = (decide (k ≤ i ∧ i < k + n) && w.getLsbD i) := by
  simp only [zextField, BitVec.getLsbD_shiftLeft, BitVec.getLsbD_setWidth, BitVec.getLsbD_extractLsb']
  obtain hbelow | ⟨j, rfl⟩ : i < k ∨ ∃ j, i = k + j := (Nat.lt_or_ge i k).imp_right Nat.exists_eq_add_of_le
  · simp [hbelow]
  · by_cases hj : j < n
    · have hin : k + j < 32 ∧ j < 32 := by omega
      simp [hj, hin]
    · simp [hj]

/-- Two fields put back at their places share no bit where one range ends before the other starts. -/
theorem zextField_disjoint (w : Word) {k n m l : Nat} (hnm : k + n ≤ m) (hml : m + l ≤ 32) :
    (zextField w m l <<< m) &&& (zextField w k n <<< k) = 0 := by
  apply BitVec.eq_of_getLsbD_eq
  intro i _
  rw [BitVec.getLsbD_and, zextField_shiftLeft_getLsbD w hml, zextField_shiftLeft_getLsbD w (by omega),
    BitVec.ofNat_eq_ofNat, BitVec.getLsbD_zero]
  obtain hout | hout : ¬ (m ≤ i ∧ i < m + l) ∨ ¬ (k ≤ i ∧ i < k + n) := by omega
  · rw [decide_eq_false hout, Bool.false_and, Bool.false_and]
  · rw [decide_eq_false hout, Bool.false_and, Bool.and_false]

/-- Three adjacent fields from bit 0 to bit 31, put back at their places, make up the word. -/
theorem zextField_cover (w : Word) {k m n : Nat} (hkm : k ≤ m) (hmn : m + n = 32) :
    (zextField w m n <<< m) ||| (zextField w k (m - k) <<< k) ||| (zextField w 0 k <<< 0) = w := by
  apply BitVec.eq_of_getLsbD_eq
  intro i hi
  have hrange : ((m ≤ i ∧ i < m + n) ∨ (k ≤ i ∧ i < k + (m - k))) ∨ (0 ≤ i ∧ i < 0 + k) := by omega
  rw [BitVec.getLsbD_or, BitVec.getLsbD_or, zextField_shiftLeft_getLsbD w (by omega),
    zextField_shiftLeft_getLsbD w (by omega), zextField_shiftLeft_getLsbD w (by omega),
    ← Bool.and_or_distrib_right, ← Bool.and_or_distrib_right, ← Bool.decide_or, ← Bool.decide_or,
    decide_eq_true hrange, Bool.true_and]

/-! ## The fields that the extractors drive -/

theorem exec_vxsw (s : State) : exec .vxsw s = .next (driveR0 (zextField s.req.a 0 15) s) := rfl

theorem exec_vxrec (s : State) : exec .vxrec s = .next (driveR0 (zextField s.req.a 15 1) s) := rfl

theorem exec_vxfpga (s : State) : exec .vxfpga s = .next (driveR0 (zextField s.req.a 16 16) s) := rfl

theorem exec_vxhw (s : State) : exec .vxhw s = .next (driveR0 (zextField s.req.b 0 16) s) := rfl

/-! ## The obligations -/

/-- Settles O52: each extractor drives `R0` with its field, the low ones a remainder, the high one a quotient. -/
theorem versionFieldResults : Obligations.VersionFieldResults := by
  refine ⟨?vxsw, ?vxrec, ?vxfpga, ?vxhw, fun s => ⟨?_, ?_, ?_, ?_⟩⟩
  case vxsw | vxrec | vxfpga | vxhw => exact opSelects_of_decodeOp fun w hop => by simp [decodeOp, hop]
  · exact ⟨_, _, exec_vxsw s, respond_onlyResponseChanges _ s, driveR0_drivesWords _ s,
      zextField_zero_toNat s.req.a (by decide)⟩
  · exact ⟨_, _, exec_vxrec s, respond_onlyResponseChanges _ s, driveR0_drivesWords _ s,
      zextField_toNat s.req.a 15 (by decide)⟩
  · exact ⟨_, _, exec_vxfpga s, respond_onlyResponseChanges _ s, driveR0_drivesWords _ s,
      zextField_top_toNat s.req.a (by decide)⟩
  · exact ⟨_, _, exec_vxhw s, respond_onlyResponseChanges _ s, driveR0_drivesWords _ s,
      zextField_zero_toNat s.req.b (by decide)⟩

/-- Settles O53: the fields at bits 31 to 16, 15 and 14 to 0 are adjacent, so they cover A and are pairwise disjoint. -/
theorem versionFieldsPartitionTheHighWord : Obligations.VersionFieldsPartitionTheHighWord := by
  intro s
  refine ⟨_, _, _, exec_vxsw s, exec_vxrec s, exec_vxfpga s, ?_⟩
  simp only [driveR0_resp]
  rw [← BitVec.shiftLeft_zero (zextField s.req.a 0 15)]
  exact ⟨zextField_cover s.req.a (by decide) (by decide), zextField_disjoint s.req.a (by decide) (by decide),
    zextField_disjoint s.req.a (by decide) (by decide), zextField_disjoint s.req.a (by decide) (by decide)⟩

end Sys2Proof.Machine

/-! Proofs of the family 60_exceptions.md: what an illegal request changes and indicates, at the instruction and at the
step, and the family's obligations. -/

namespace Sys2Proof.Machine

/-! ## Illegal requests -/

theorem raiseIllegalRequest_onlyResponseChanges (s : State) : OnlyResponseChanges s (raiseIllegalRequest s) :=
  respond_onlyResponseChanges _ s

theorem raiseIllegalRequest_indicates (s : State) : IndicatesIllegal (raiseIllegalRequest s).resp :=
  illegal_indicated

theorem isIllegal_decodeCtrl_of_not_legal {w : Word} (h : ¬ LegalCtrl w) : isIllegal (decodeCtrl w) = true := by
  rwa [← Bool.not_eq_false, isIllegal_decodeCtrl_eq_false_iff]

/-- With a packet in the state space, an illegal word raises `IllegalRequest` on the state that has sampled it
(60_exceptions.md R275). -/
theorem step_of_not_legal {s : State} {r : Request} {rest : List HostEvent} (hhost : s.host = .request r :: rest)
    (hpe : s.pkt.pe.toNat ≤ 5) (hillegal : ¬ LegalCtrl r.ctrl) :
    step s = .next (raiseIllegalRequest { s with host := rest, req := r }) :=
  (step_request_of_le hhost hpe).trans (exec_of_isIllegal (isIllegal_decodeCtrl_of_not_legal hillegal) _)

/-! ## The obligations -/

/-- Settles O23: the step raises `IllegalRequest`, which leaves all but the response of the sampled state. -/
theorem illegalRequestsArePerformedAsNothing : Obligations.IllegalRequestsArePerformedAsNothing := by
  intro s r rest hpe hhost hillegal
  obtain ⟨hcfg, hpkt, hreq, hrest⟩ := raiseIllegalRequest_onlyResponseChanges { s with host := rest, req := r }
  exact ⟨_, step_of_not_legal hhost hpe hillegal, hpkt, hcfg, hrest, hreq, raiseIllegalRequest_indicates _⟩

/-- Settles O22: each of the three rows is illegal, so it raises `IllegalRequest` and does nothing else. -/
theorem illegalInstructionsIndicateIll : Obligations.IllegalInstructionsIndicateIll := by
  intro s rsv1 rsv0 op i hrow
  have hillegal : isIllegal i = true := by
    obtain rfl | rfl | rfl := hrow
    · rfl
    · rfl
    · rfl
  exact ⟨_, exec_of_isIllegal hillegal s, raiseIllegalRequest_onlyResponseChanges s, raiseIllegalRequest_indicates s⟩

end Sys2Proof.Machine

/-! Proofs of the family 70_reset_and_hazards.md: the reset event, what a step and a run do to a state that meets the
invariant, what the observation of a run holds, the waiting phases of single flight, and the family's obligations. -/

namespace Sys2Proof.Machine

/-! ## The reset event -/

theorem quiet_drivesWords : DrivesWords quiet 0 0 := ⟨rfl, rfl, rfl, rfl, quiet_noBytes, quiet_noFlags⟩

/-! ## Steps and runs under the invariant -/

/-- A step takes the host's next event, if there is one, and no other (10_state.md R30). -/
theorem step_host {s t : State} (h : step s = .next t) : t.host = s.host.tail := by
  obtain ⟨hhost, rfl⟩ | ⟨presented, rest, hhost, rfl⟩ | ⟨r, rest, hhost, he⟩ := step_cases h
  · simp [hhost]
  · simp [hhost]
  · exact (exec_keeps_host he).trans (congrArg List.tail hhost).symm

theorem step_of_inv {s : State} (hs : s.Inv) :
    ∃ t, step s = .next t ∧ t.Inv ∧ t.cfg = s.cfg ∧ t.host = s.host.tail := by
  obtain ⟨-, -, hnext⟩ := stepStopsOnlyOutsideTheStateSpace s
  have ⟨⟨_, hpe⟩, _⟩ := hs
  obtain ⟨t, ht⟩ := hnext hpe
  exact ⟨t, ht, stepKeepsLegalPacketAndResponse s t hs ht, configurationNeverChanges s t ht, step_host ht⟩

/-- From a state that meets the invariant, `k` steps take `k` of the host's events and stop nowhere. -/
theorem run_of_inv (k : Nat) {s : State} (hs : s.Inv) :
    ∃ t, core.run k s = .next t ∧ State.Inv t ∧ t.cfg = s.cfg ∧ t.host = s.host.drop k := by
  induction k generalizing s with
  | zero => exact ⟨s, rfl, hs, rfl, rfl⟩
  | succ k ih =>
    obtain ⟨t, hstep, ht, hcfg, hhost⟩ := step_of_inv hs
    obtain ⟨u, hrun, hu, hcfg', hhost'⟩ := ih ht
    exact ⟨u, (run_succ_of_next k hstep).trans hrun, hu, hcfg'.trans hcfg, by rw [hhost', hhost, List.drop_tail]⟩

/-! ## What the observation of a run holds -/

/-- The event presents a request, which its step performs: with a reset, the presented request is discarded
(70_reset_and_hazards.md R300). -/
def HostEvent.isRequest : HostEvent → Bool
  | .request _ => true
  | .reset _ => false

theorem observe_request {s t : State} {r : Request} {rest : List HostEvent} (k : Nat)
    (hhost : s.host = .request r :: rest) (hstep : step s = .next t) :
    observe (k + 1) s = (t.resp :: (observe k t).1, (observe k t).2) := by
  simp only [observe, hstep, hhost]

theorem observe_reset {s t : State} {presented : Option Request} {rest : List HostEvent} (k : Nat)
    (hhost : s.host = .reset presented :: rest) (hstep : step s = .next t) : observe (k + 1) s = observe k t := by
  simp only [observe, hstep, hhost]

theorem observe_succ_snd {s t : State} (k : Nat) (hstep : step s = .next t) :
    (observe (k + 1) s).2 = (observe k t).2 := by
  simp only [observe, hstep]
  split <;> rfl

/-- The packet of an observation is `PKT` of the state in which the run ends. -/
theorem observe_snd_of_run {k : Nat} {s u : State} (hs : s.Inv) (hrun : core.run k s = .next u) :
    (observe k s).2 = u.pkt := by
  induction k generalizing s with
  | zero => cases hrun; rfl
  | succ k ih =>
    obtain ⟨t, hstep, ht, -, -⟩ := step_of_inv hs
    rw [observe_succ_snd k hstep]
    exact ih ht ((run_succ_of_next k hstep).symm.trans hrun)

/-- The run over all of the host's events shows one response for each request among them. -/
theorem observe_fst_length {events : List HostEvent} {s : State} (hs : s.Inv) (hhost : s.host = events) :
    (observe events.length s).1.length = (events.filter HostEvent.isRequest).length := by
  induction events generalizing s with
  | nil => rfl
  | cons e rest ih =>
    obtain ⟨t, hstep, ht, -, htail⟩ := step_of_inv hs
    have hrest := ih ht (htail.trans (congrArg List.tail hhost))
    cases e with
    | request r => simpa [observe_request rest.length hhost hstep, HostEvent.isRequest, List.filter_cons] using hrest
    | reset presented => simpa [observe_reset rest.length hhost hstep, HostEvent.isRequest, List.filter_cons] using hrest

/-! ## Single flight -/

/-- While a packet waits, a request that writes `PKT` breaks single flight (70_reset_and_hazards.md R303; log entry 14). -/
theorem exchangeStep_of_writer {phase : ExchangePhase} (hphase : phase = .built ∨ phase = .received) {i : Instr}
    (hi : writesPacket i = true) (r : Response) : exchangeStep phase i r = none := by
  -- `cases hi` leaves the writing instructions.
  obtain rfl | rfl := hphase
  · cases i <;> cases hi <;> rfl
  · cases i <;> cases hi <;> rfl

/-! ## The obligations -/

/-- Settles O19: as many steps as there are events take them all, and each request among them adds one response. -/
theorem runEndsAfterItsLastEvent : Obligations.RunEndsAfterItsLastEvent := by
  intro s hs
  obtain ⟨t, hrun, ht, hcfg, hhost⟩ := run_of_inv s.host.length hs
  exact ⟨t, hrun, hhost.trans List.drop_length, ht, hcfg, observe_snd_of_run hs hrun, observe_fst_length hs rfl⟩

/-- Settles O21: an instruction that single flight allows in a waiting phase is not a writing one. -/
theorem singleFlightKeepsTheWaitingPacket : Obligations.SingleFlightKeepsTheWaitingPacket := by
  intro phase next i s t hphase hexec hallowed
  refine exec_keeps_pkt hexec (Bool.eq_false_iff.2 fun hi => ?_)
  rw [exchangeStep_of_writer hphase hi] at hallowed
  cases hallowed

/-- Settles O11: the step of a reset event applies reset to the state without that event, and the header command Reset is
the BUILD of its selector. -/
theorem resetEvent : Obligations.ResetEvent := by
  refine ⟨fun s presented rest hhost => ?_, fun s isSet chan => ?_⟩
  · exact ⟨_, step_reset hhost, rfl, rfl, rfl, rfl, rfl, quiet_drivesWords⟩
  · exact exec_of_headerFields? (i := .reset isSet chan) rfl s

end Sys2Proof.Machine
